-- ==== Sys2Proof/Word.lean ====
section
/-! DEFINITION. The word types of the DL-2240's records, registers and counts, and the plainest arithmetic on them. -/

namespace Sys2Proof

/-- One byte of host memory, of a staging slot or of a record. -/
abbrev Byte := BitVec 8

/-- A 32-bit field: a tag, a detail of a completion, a register, a frame number, a take number. -/
abbrev Word := BitVec 32

/-- A 64-bit byte address of host memory. -/
abbrev Addr := BitVec 64

/-- The number `n` as a 32-bit field. -/
def word (n : Nat) : Word := BitVec.ofNat 32 n

/-- The smallest integer not less than `a / b` (00, section 5.5), for `b` at least 1. -/
def ceilDiv (a b : Nat) : Nat := (a + (b - 1)) / b

end Sys2Proof
end

