-- ==== Sys2Proof/Syntax.lean ====
section
/-! DEFINITION. The commands of the DL-2240: one constructor for each row of spec/opcode_table.json.

A command is one whole, indivisible step of the part (spec/95_what_each_step_holds.md). Commands of four kinds reach it:
levels of its pins and ticks of its timebase, writes to its registers, the ends of its bus transfers, and events that
fall due inside it. A submission record is brought in by `ringReadEnd` and held in its ring's holder: the record's own
command is its dispatch, and takes its fields from the held bytes (R164, R165, 11.7.1). -/

namespace Sys2Proof

/-- A panel, 0 to 3 (5.1). -/
abbrev PanelId := Fin 4
/-- A tally, 0 to 15 (R105). -/
abbrev TallyId := Fin 16
/-- A count input line, CIN0 to CIN7 (R149). -/
abbrev LineId := Fin 8

/-- The two submission rings (R159). -/
inductive RingId where
  | u
  | b
  deriving DecidableEq, Repr

/-- How a read burst ends (R73): an OK answer carries the data. -/
inductive ReadEnd where
  | ok (data : List Byte)
  | busError
  | timeout
  deriving DecidableEq, Repr

/-- How a write burst ends (R73). -/
inductive WriteEnd where
  | ok
  | busError
  | timeout
  deriving DecidableEq, Repr

/-- The registers whose write has no behaviour of its own (R188): SETUP_LO and SETUP_HI take the value, the read-only
STATUS and C_POST ignore it. -/
inductive PlainRegister where
  | status
  | setupLo
  | setupHi
  | cPost
  deriving DecidableEq, Repr

/-- The 51 commands, in the order of spec/opcode_table.json. -/
inductive Instr where
  /-- RESET_n is driven low (R187). -/
  | resetNAssert
  /-- RESET_n is released (R187). -/
  | resetNRelease
  /-- The last byte of the frame store clearing is written (R187). -/
  | initClearEnd
  /-- PFLT_n of the panel becomes asserted (R90). -/
  | pfltAssert (panel : PanelId)
  /-- PFLT_n of the panel becomes released (R90). -/
  | pfltRelease (panel : PanelId)
  /-- The raw level of the line becomes `level`, `true` for high (R150). -/
  | cinLevelChange (line : LineId) (level : Bool)
  /-- REF_MHZ periods of REFCLK have passed (R146). -/
  | usTick
  /-- The us tick that is also an ms tick (R146). -/
  | msTick
  /-- The ms tick at which the tally's ms remainder reaches its period (R115). -/
  | timebasePeriodStep (tally : TallyId)
  /-- The ms tick at which the line's hold count reaches its filter (R150). -/
  | filterHoldExpiry (line : LineId)
  /-- Burst timeout us have passed with no answer to the burst in flight (R73). -/
  | burstTimeout
  /-- 65 536 REFCLK periods have passed with no answer to the setup read (R189). -/
  | setupReadTimeout
  /-- An answer arrives for a burst that has already ended (R73). -/
  | lateAnswer
  /-- A write of `value` to CONTROL with SOFT_RESET 0, for its ENABLE bit (R188). -/
  | enable (value : Word)
  /-- A write of `value` to CONTROL with SOFT_RESET 1 (R188, R192). -/
  | softReset (value : Word)
  /-- A write of `value` to CONTROL with SOFT_RESET 0, for its INT_ENABLE bit (R182, R188). -/
  | intEnable (value : Word)
  /-- A write of `value` to U_TAIL or B_TAIL (R160). -/
  | tailWrite (ring : RingId) (value : Word)
  /-- A write of `value` to C_RELEASE (R181). -/
  | cRelease (value : Word)
  /-- A write of `value` to a register without behaviour of its own (R188). -/
  | registerWrite (reg : PlainRegister) (value : Word)
  /-- TU's arbiter chooses a waiting transfer and issues it (R68). -/
  | burstIssue
  /-- The setup read ends (R189). -/
  | setupReadEnd (answer : ReadEnd)
  /-- A ring record read ends (R161). -/
  | ringReadEnd (answer : ReadEnd)
  /-- A completion or event record write ends (R179). -/
  | completionWriteEnd (answer : WriteEnd)
  /-- A pixel or glyph fetch burst ends (R74). -/
  | fetchBurstEnd (answer : ReadEnd)
  /-- A CAPTURE write-back burst ends (R74). -/
  | writeBackBurstEnd (answer : WriteEnd)
  /-- The burst of a withdrawn owner ends (R76). For a write-back the data is empty. -/
  | orphanBurstEnd (answer : ReadEnd)
  /-- A frame of the panel begins (R42). -/
  | frameBoundary (panel : PanelId)
  /-- A row time of the panel's row transfers elapses (R98). -/
  | rowTransfer (panel : PanelId)
  /-- The last row transfer of the panel's frame has ended (R57). -/
  | frameEnd (panel : PanelId)
  /-- The condition of R193 holds and the device leaves RESETTING. -/
  | resettingExit
  /-- The dispatch of a held NOP (R169). -/
  | nop
  /-- The dispatch of a held record whose kind names no command (R165). -/
  | unknownKind
  /-- The dispatch of a held SYNC (R171). -/
  | sync
  /-- The dispatch of a held PANEL_CONFIG (R12). -/
  | panelConfig
  /-- The dispatch of a held PANEL_START (R81). -/
  | panelStart
  /-- The dispatch of a held PANEL_STOP (R84). -/
  | panelStop
  /-- The dispatch of a held PANEL_HOLD (R88). -/
  | panelHold
  /-- The dispatch of a held PANEL_WINDOW (R89). -/
  | panelWindow
  /-- The dispatch of a held UPDATE (R23). -/
  | update
  /-- The dispatch of a held FILL (R23). -/
  | fill
  /-- The dispatch of a held CAPTURE (R23). -/
  | capture
  /-- The dispatch of a held CANCEL (R34). -/
  | cancel
  /-- The dispatch of a held GLYPH_LOAD (R132). -/
  | glyphLoad
  /-- The dispatch of a held TALLY_BIND (R137). -/
  | tallyBind
  /-- The dispatch of a held TALLY_UNBIND (R140). -/
  | tallyUnbind
  /-- The dispatch of a held TALLY_DEFINE (R118). -/
  | tallyDefine
  /-- The dispatch of a held TALLY_CONTROL (R120). -/
  | tallyControl
  /-- The dispatch of a held TALLY_READ (R124). -/
  | tallyRead
  /-- The dispatch of a held BLINK_GROUP (R155). -/
  | blinkGroup
  /-- The dispatch of a held BLINK_ZONE (R158). -/
  | blinkZone
  /-- The dispatch of a held COUNT_INPUT (R152). -/
  | countInput
  deriving DecidableEq, Repr

end Sys2Proof
end

