-- ==== Sys2Proof/Decode.lean ====
section
/-! DEFINITION. The command that a word of the table's bits spells. No row of spec/opcode_table.json gives its command
any bits, so no word spells a command. The layouts of the records and registers are in Machine/Operands.lean. -/

namespace Sys2Proof

/-- The command spelled by the `nbits` bits `w`: none, since the table gives no row any bits (log entry 22). -/
def decodeTableWord (_nbits _w : Nat) : Option Instr := none

end Sys2Proof
end

