-- ==== Sys2Proof/Config.lean ====
section
/-! DEFINITION. The principal figures of the part (00, section 5.6 and the rules that fix each), and the one value that
the spec leaves open, as an uninterpreted constant. -/

namespace Sys2Proof.Config

/-- The pending list's capacity (R19). -/
def listCapacity : Nat := 32

/-- The bytes of one staging slot (R62). -/
def slotBytes : Nat := 2048

/-- The greatest cost of an UPDATE or CAPTURE (R7, R23). -/
def maxStagedCost : Nat := 16384

/-- The bytes of commit budget that one blank row gives (R11). -/
def budgetPerBlankRow : Nat := 2048

/-- A burst never crosses a multiple of this many bytes (R71). -/
def burstBytes : Nat := 256

/-- The most columns a panel may have (1.6, field 2). -/
def maxColumns : Nat := 512

/-- us ticks to an ms tick (R146). -/
def usPerMs : Nat := 1000

/-- The greatest occurrence count of an event flag (R126). -/
def maxOccurrences : Nat := 255

/-- The legal ring sizes: the powers of two from 16 to 4096 (R190). -/
def ringSizes : List Nat := [16, 32, 64, 128, 256, 512, 1024, 2048, 4096]

/-! ## The free value -/

/-- The cause field, 0 to 10, where the spec gives a new cause and no field with it: at entry to SETUP and to QFAULT
(R186, R183). A free value, applied to the new cause's code and the field before (log entry 31). -/
opaque causeFieldAfter : Nat → Nat → Fin 11

end Sys2Proof.Config
end

