-- ==== Sys2Proof/Machine/State.lean ====
section
/-! DEFINITION. The state of the DL-2240: every piece of state the spec gives its eleven blocks, as plain data, the
state right after a pin reset, and the reasons a command could stop with.

A field the spec marks "absent" is an `Option`. Two things are read from one home instead of being held twice: a
ring's "read in flight" and CPo's "write in flight" are the requester of TU's transfer in flight, and a tally's
"bindings" field is the occupancy of GB's places. -/

namespace Sys2Proof.Machine

/-- A reason for stopping with a fault. No command of this block stops with one: what the spec calls a fault (FAULTED
panels, RING_FAULT, QFAULT, setup causes) is state. The type is empty, so that Lean itself says no fault can occur. -/
inductive Fault
  deriving DecidableEq, Repr

/-- A reason for refusing a command. -/
inductive Refusal where
  /-- The command has no meaning in the model. Raised by the dispatch alone; no arm raises it. Safe. -/
  | notModelled (mnemonic : String)
  deriving DecidableEq, Repr

/-! ## Device Control (R186) -/

/-- The seven device states (11.1). -/
inductive DeviceState where
  | init
  | halted
  | setup
  | active
  | paused
  | resetting
  | qfault
  deriving DecidableEq, Repr

/-- The causes by which the device enters QFAULT (R183). -/
inductive PosterCause where
  | cwriteError
  | cwriteTimeout
  | badRelease
  deriving DecidableEq, Repr

/-- The cause that STATUS reports (R186). -/
inductive Cause where
  | none
  | setupInvalid
  | setupRead
  | poster (cause : PosterCause)
  deriving DecidableEq, Repr

/-- The setup values of a valid setup block (R190, 11.7.3). -/
structure SetupValues where
  baseU : Addr
  sizeU : Nat
  baseB : Addr
  sizeB : Nat
  completionBase : Addr
  completionSize : Nat
  refMhz : Nat
  /-- in us (R73) -/
  burstTimeout : Nat
  starvationLimit : Nat
  deriving DecidableEq, Repr

/-- DC's record (R186) and the level of RESET_n. -/
structure Device where
  /-- RESET_n is driven low (R187). -/
  resetAsserted : Bool
  state : DeviceState
  cause : Cause
  causeField : Nat
  setup : Option SetupValues
  setupAddress : Addr
  /-- the address of the setup read that DC presents to TU, from the entry to SETUP until its issue (R67, R188, R189) -/
  setupRead : Option Addr
  enable : Bool
  intEnable : Bool
  softResetRequested : Bool
  deriving DecidableEq, Repr

/-! ## Timebase and count inputs (R146, R149) -/

/-- TB's timebase record (R146). -/
structure Timebase where
  running : Bool
  refMhz : Option Nat
  us : BitVec 64
  ms : BitVec 64
  deriving DecidableEq, Repr

/-- Which filtered edges of a line are accepted (R151). -/
inductive EdgeKind where
  | rise
  | fall
  | both
  deriving DecidableEq, Repr

/-- One count input line (R149): levels are `true` for high. -/
structure CountInput where
  raw : Bool
  edge : EdgeKind
  filter : Nat
  accepted : Option Bool
  hold : Nat
  deriving DecidableEq, Repr

/-! ## Rectangles (5.1) -/

/-- A rectangle (x, y, w, h). -/
structure Rect where
  x : Nat
  y : Nat
  w : Nat
  h : Nat
  deriving DecidableEq, Repr

/-! ## Blink Unit (R154, R157) -/

/-- A blink group (R154): period in units of 10 ms, duty in per cent. -/
structure BlinkGroup where
  period : Nat
  duty : Nat
  epoch : BitVec 64
  deriving DecidableEq, Repr

/-- A blink zone (R157). -/
structure Zone where
  panel : PanelId
  rect : Rect
  group : Fin 4
  deriving DecidableEq, Repr

/-! ## Answers owed to the host (R170, R174, R176) -/

/-- What the completion of a taken record needs of that record: its tag, its kind as read, its origin ring and its
take number (R165, R176). Origin ring and take number tell the record from every other outstanding one (R170). -/
structure Ticket where
  tag : Word
  kind : BitVec 16
  ring : RingId
  take : Word
  deriving DecidableEq, Repr

/-- The status codes (10.2). -/
inductive Status where
  | ok
  | shown
  | hidden
  | cancelled
  | notFound
  | tooLarge
  | refusedState
  | refusedParam
  | conflict
  | inUse
  | listFull
  | fetchError
  | fetchTimeout
  | writeError
  | writeTimeout
  | panelStopped
  | panelFault
  | unknownKind
  deriving DecidableEq, Repr

/-- A requested completion (R174, R176). -/
structure Completion where
  ticket : Ticket
  status : Status
  detailA : Word
  detailB : Word
  deriving DecidableEq, Repr

/-! ## Tally Unit (R105) -/

/-- The state of a defined tally. -/
inductive TallyRun where
  | stopped
  | running
  | expired
  deriving DecidableEq, Repr

inductive Direction where
  | up
  | down
  deriving DecidableEq, Repr

/-- What steps a tally (R113). -/
inductive Source where
  | cin (line : LineId)
  | p10ms
  | p100ms
  | p1s
  | p1min
  | host
  | tally (k : TallyId)
  deriving DecidableEq, Repr

inductive EndAction where
  | stop
  | wrap
  | reload
  deriving DecidableEq, Repr

/-- The fields a tally has when it is defined (R105). Digits stand least significant first; the digit count n is the
length of the moduli. -/
structure TallyDef where
  run : TallyRun
  moduli : List Nat
  value : List Nat
  direction : Direction
  source : Source
  endAction : EndAction
  reload : Option (List Nat)
  watch : Option (List Nat)
  endEnabled : Bool
  watchEnabled : Bool
  /-- ms remainder, present for a timebase source (R115) -/
  remainder : Option Nat
  deriving DecidableEq, Repr

/-- A tally (R105): `defn` is absent in UNDEFINED. An event flag is set when its occurrence count is not 0 (R126). -/
structure Tally where
  defn : Option TallyDef
  endCount : Nat
  watchCount : Nat
  deriving DecidableEq, Repr

/-! ## Glyph Store and Binding Table (R130, R136) -/

/-- A glyph set with the fields present in each state (R130). -/
inductive GlyphSet where
  | empty
  | loading (width height separatorWidth : Nat) (load : Ticket) (slots : List (Fin 24))
  | ready (width height separatorWidth : Nat) (data : List Byte)
  deriving DecidableEq, Repr

inductive Separator where
  | none
  | colon
  | point
  deriving DecidableEq, Repr

/-- A binding (R136); its tally and slot are those of its place. -/
structure Binding where
  panel : PanelId
  rect : Rect
  glyphSet : Fin 4
  pitch : Nat
  foreground : Nat
  background : Nat
  blankLeading : Nat
  /-- entry i stands between digits i + 1 and i -/
  separators : List Separator
  expiryGroup : Option (Fin 4)
  dirty : Bool
  deriving DecidableEq, Repr

/-! ## Staging Pool and Transfer Unit (R62, R69) -/

/-- Who owns slots and data operations: one pending-list entry, named by its panel and its record's origin ring and
take number, or the glyph load of one set (R62). -/
inductive Owner where
  | entry (panel : PanelId) (ring : RingId) (take : Word)
  | glyph (set : Fin 4)
  deriving DecidableEq, Repr

inductive SlotState where
  | free
  | owned (owner : Owner)
  | reclaim
  deriving DecidableEq, Repr

/-- A data operation (R69, R71): `rows` rows of `rowBytes` packed bytes, a stride apart in host memory, staged in
`slots`. `done` staged bytes have been moved by bursts that ended OK. -/
structure Operation where
  owner : Owner
  /-- a CAPTURE write-back; otherwise a fetch -/
  write : Bool
  address : Nat
  stride : Nat
  rowBytes : Nat
  rows : Nat
  slots : List (Fin 24)
  done : Nat
  deriving DecidableEq, Repr

/-- A data channel (R69). -/
inductive Channel where
  | free
  | loaded (op : Operation)
  | inFlight (op : Operation)
  deriving DecidableEq, Repr

/-- The causes of a RING_FAULT (R162). -/
inductive RingCause where
  | readError
  | readTimeout
  | badTail
  deriving DecidableEq, Repr

/-- CPo's event sources, in the cyclic order of R180. -/
inductive EventSource where
  | ringFault (ring : RingId)
  | panelFault (panel : PanelId)
  | tallyEnd (tally : TallyId)
  | tallyWatch (tally : TallyId)
  deriving DecidableEq, Repr

/-- The record whose burst CPo has on the bus (R175). -/
inductive PosterWrite where
  | completion (c : Completion)
  | event (source : EventSource)
  deriving DecidableEq, Repr

/-- Who is handed the end of a transfer (R67, R73, R76). -/
inductive Requester where
  | poster (write : PosterWrite)
  | setup
  | ring (ring : RingId)
  | channel (channel : Fin 4)
  | orphan (op : Operation)
  deriving DecidableEq, Repr

/-- The transfer in flight on the system bus (R67). A write carries its bytes from its issue (R72). -/
structure Flight where
  requester : Requester
  write : Bool
  address : Nat
  length : Nat
  data : List Byte
  /-- us ticks since the issue (R148) -/
  elapsed : Nat
  deriving DecidableEq, Repr

/-! ## Panel Ports and Commit Unit (1.6, R17, R80) -/

inductive PanelState where
  | off
  | starting
  | running
  | frozen
  | draining
  | faulted
  deriving DecidableEq, Repr

inductive DriveMode where
  | none
  | frame
  | rows
  deriving DecidableEq, Repr

/-- The drive phase (R103). -/
inductive Phase where
  | a
  | b
  deriving DecidableEq, Repr

/-- The panel configuration record, fields 2 to 13 (1.6). -/
structure PanelConfig where
  width : Nat
  height : Nat
  depth : Nat
  lanes : Nat
  rowTime : Nat
  blankRows : Nat
  windowFirst : Nat
  windowLast : Nat
  driveMode : DriveMode
  /-- k, present when the drive mode is ROWS -/
  driveRows : Option Nat
  spreadA : Nat
  spreadB : Nat
  deriving DecidableEq, Repr

inductive FrameKind where
  | leadIn
  | ordinary
  | balancing
  deriving DecidableEq, Repr

/-- The frame in progress (R80, R97): what its boundary fixed, and how far it has run. -/
structure Frame where
  kind : FrameKind
  first : Nat
  last : Nat
  startPhase : Phase
  /-- the frame's invisible areas (R101) -/
  invisible : List Rect
  rowsDone : Nat
  /-- us ticks since the boundary (R148) -/
  elapsed : Nat
  deriving DecidableEq, Repr

/-- What one row transfer hands the panel's drivers (R98): the row address, and for each shift clock pulse the level
of the four data lanes (`true` for lit). -/
structure RowOutput where
  row : Nat
  pulses : List (List Bool)
  deriving DecidableEq, Repr

/-- A panel port (R10, R80). `config` is present when the configured flag is set. -/
structure Port where
  config : Option PanelConfig
  state : PanelState
  frameNumber : Word
  shadePhase : Nat
  /-- 0 is `false`, 1 is `true` -/
  balance : Bool
  pendingWindow : Option (Nat × Nat)
  frame : Option Frame
  /-- the line PnPH (R99, R103) -/
  phaseLine : Phase
  waitingStarts : List Ticket
  waitingStops : List Ticket
  /-- PFLT_n is driven low (R90). -/
  faultLine : Bool
  /-- the last row handed to the panel's drivers (R98) -/
  lastRow : Option RowOutput
  deriving DecidableEq, Repr

inductive EntryKind where
  | update
  | fill
  | capture
  deriving DecidableEq, Repr

inductive EntryState where
  | queued
  | fetching
  | ready
  | committed
  | writing
  deriving DecidableEq, Repr

/-- An entry of a pending list (R17). -/
structure Entry where
  ticket : Ticket
  kind : EntryKind
  rect : Rect
  state : EntryState
  slots : Option (List (Fin 24))
  address : Option Nat
  stride : Option Nat
  shade : Option Nat
  cost : Nat
  commitFrame : Option Word
  deriving DecidableEq, Repr

/-- Memory in one canonical form: addresses strictly rising, and no cell that holds the byte an unlisted address reads
as, which is 0 (R2; log entry 2). -/
abbrev Memory := List Host.Cell

/-! ## Record Taker (R159) -/

/-- A ring state; a STALLED ring carries the need SP has recorded for its held record (R65). -/
inductive RingState where
  | running
  | stalled (need : Nat)
  | fault
  deriving DecidableEq, Repr

/-- A SYNC taken and not yet answered, with the count its completion reports (R171). -/
structure WaitingSync where
  ticket : Ticket
  earlier : Nat
  deriving DecidableEq, Repr

/-- A submission ring's record (R159). The outstanding set is held in take order (log entry 24). -/
structure Ring where
  head : Nat
  tail : Nat
  state : RingState
  holder : Option (List Byte)
  take : Word
  outstanding : List Word
  syncs : List WaitingSync
  deriving DecidableEq, Repr

/-! ## Completion Poster (R175) -/

inductive Written where
  | completion
  | event
  deriving DecidableEq, Repr

/-- The write CPo has chosen and presents to TU until its issue (R178). -/
inductive Presented where
  | completion
  | event (source : EventSource)
  deriving DecidableEq, Repr

/-- CPo's record (R175). -/
structure Poster where
  post : Nat
  release : Nat
  phase : Bool
  reserved : Nat
  queue : List Completion
  presented : Option Presented
  eventPointer : Nat
  lastWritten : Written
  faultCause : Option PosterCause
  /-- the waiting PANEL_FAULT event of each panel, with its detail b (R91) -/
  panelFaults : Vector (Option Word) 4
  ringFaultU : Option RingCause
  ringFaultB : Option RingCause
  deriving DecidableEq, Repr

/-! ## The whole part -/

/-- The state of the part, and the queue of the commands that wait for it (log entry 5). -/
structure State where
  pending : List Instr
  dev : Device
  tb : Timebase
  cins : Vector CountInput 8
  groups : Vector BlinkGroup 4
  zones : Vector (Option Zone) 16
  tallies : Vector Tally 16
  glyphs : Vector GlyphSet 4
  /-- place 2 t + k is binding slot k of tally t (R136) -/
  bindings : Vector (Option Binding) 32
  slots : Vector SlotState 24
  /-- the slots' bytes: byte o of slot i at address 2048 i + o (R62, R66) -/
  staging : Memory
  channels : Vector Channel 4
  waitQueue : List Operation
  rrNext : Fin 4
  flight : Option Flight
  ports : Vector Port 4
  lists : Vector (List Entry) 4
  /-- the shade of pixel (x, y) at address 512 y + x (R1; log entry 4) -/
  regions : Vector Memory 4
  ringU : Ring
  ringB : Ring
  passOver : Nat
  cpo : Poster
  deriving DecidableEq, Repr

/-! ## The state after a pin reset -/

def Device.reset : Device where
  resetAsserted := true
  state := .init
  cause := .none
  causeField := 0
  setup := none
  setupAddress := 0
  setupRead := none
  enable := false
  intEnable := false
  softResetRequested := false

def Timebase.reset : Timebase where
  running := false
  refMhz := none
  us := 0
  ms := 0

/-- R149. The raw level is a pin; the level it starts from is log entry 1's. -/
def CountInput.reset : CountInput where
  raw := false
  edge := .rise
  filter := 0
  accepted := none
  hold := 0

/-- The group defaults of R154. -/
def BlinkGroup.reset : BlinkGroup where
  period := 100
  duty := 50
  epoch := 0

/-- UNDEFINED, with both flags clear (R105). -/
def Tally.reset : Tally where
  defn := none
  endCount := 0
  watchCount := 0

/-- R10, R80. The fault line is a pin; the level it starts from is log entry 1's. -/
def Port.reset : Port where
  config := none
  state := .off
  frameNumber := 0
  shadePhase := 0
  balance := false
  pendingWindow := none
  frame := none
  phaseLine := .a
  waitingStarts := []
  waitingStops := []
  faultLine := false
  lastRow := none

def Ring.reset : Ring where
  head := 0
  tail := 0
  state := .running
  holder := none
  take := 0
  outstanding := []
  syncs := []

def Poster.reset : Poster where
  post := 0
  release := 0
  phase := false
  reserved := 0
  queue := []
  presented := none
  eventPointer := 0
  lastWritten := .completion
  faultCause := none
  panelFaults := Vector.replicate 4 none
  ringFaultU := none
  ringFaultB := none

/-- The part right after a pin reset, RESET_n still asserted: every block holds its pin reset values (R187). -/
def State.reset : State where
  pending := []
  dev := Device.reset
  tb := Timebase.reset
  cins := Vector.replicate 8 CountInput.reset
  groups := Vector.replicate 4 BlinkGroup.reset
  zones := Vector.replicate 16 none
  tallies := Vector.replicate 16 Tally.reset
  glyphs := Vector.replicate 4 GlyphSet.empty
  bindings := Vector.replicate 32 none
  slots := Vector.replicate 24 SlotState.free
  staging := []
  channels := Vector.replicate 4 Channel.free
  waitQueue := []
  rrNext := 0
  flight := none
  ports := Vector.replicate 4 Port.reset
  lists := Vector.replicate 4 []
  regions := Vector.replicate 4 []
  ringU := Ring.reset
  ringB := Ring.reset
  passOver := 0
  cpo := Poster.reset

end Sys2Proof.Machine
end

