-- ==== Sys2Proof/Machine/Ops.lean ====
section
/-! DEFINITION. The named operations over the state: memory cells, the fields of the state, rectangles and pixels, the
packed layouts of pixel data and digits, and the quantities a configuration fixes. -/

namespace Sys2Proof.Machine

/-! ## Memory cells -/

/-- The byte at an address; an unlisted address reads 0. -/
def Memory.read : Memory → Nat → Byte
  | [], _ => 0
  | (b, w) :: m, a => if a < b then 0 else if a = b then w else Memory.read m a

/-- A write, in canonical form: writing 0 takes the cell out. -/
def Memory.write : Memory → Nat → Byte → Memory
  | [], a, v => if v = 0 then [] else [(a, v)]
  | (b, w) :: m, a, v =>
    if a < b then (if v = 0 then (b, w) :: m else (a, v) :: (b, w) :: m)
    else if a = b then (if v = 0 then m else (a, v) :: m)
    else (b, w) :: Memory.write m a v

/-- The canonical form above `low`: addresses rise strictly from at least `low`, and no cell holds 0. -/
def Memory.wfFrom : Nat → Memory → Bool
  | _, [] => true
  | low, (b, w) :: m => low ≤ b && w != 0 && Memory.wfFrom (b + 1) m

/-- The canonical form. -/
def Memory.wf (m : Memory) : Bool := Memory.wfFrom 0 m

/-! ## The fields of the state -/

def State.setPending (s : State) (v : List Instr) : State := { s with pending := v }
def State.setDev (s : State) (v : Device) : State := { s with dev := v }
def State.setTb (s : State) (v : Timebase) : State := { s with tb := v }
def State.setCins (s : State) (v : Vector CountInput 8) : State := { s with cins := v }
def State.setGroups (s : State) (v : Vector BlinkGroup 4) : State := { s with groups := v }
def State.setZones (s : State) (v : Vector (Option Zone) 16) : State := { s with zones := v }
def State.setTallies (s : State) (v : Vector Tally 16) : State := { s with tallies := v }
def State.setGlyphs (s : State) (v : Vector GlyphSet 4) : State := { s with glyphs := v }
def State.setBindings (s : State) (v : Vector (Option Binding) 32) : State := { s with bindings := v }
def State.setSlots (s : State) (v : Vector SlotState 24) : State := { s with slots := v }
def State.setStaging (s : State) (v : Memory) : State := { s with staging := v }
def State.setChannels (s : State) (v : Vector Channel 4) : State := { s with channels := v }
def State.setWaitQueue (s : State) (v : List Operation) : State := { s with waitQueue := v }
def State.setRrNext (s : State) (v : Fin 4) : State := { s with rrNext := v }
def State.setFlight (s : State) (v : Option Flight) : State := { s with flight := v }
def State.setPorts (s : State) (v : Vector Port 4) : State := { s with ports := v }
def State.setLists (s : State) (v : Vector (List Entry) 4) : State := { s with lists := v }
def State.setRegions (s : State) (v : Vector Memory 4) : State := { s with regions := v }
def State.setRingU (s : State) (v : Ring) : State := { s with ringU := v }
def State.setRingB (s : State) (v : Ring) : State := { s with ringB := v }
def State.setPassOver (s : State) (v : Nat) : State := { s with passOver := v }
def State.setCpo (s : State) (v : Poster) : State := { s with cpo := v }

def State.cin (s : State) (n : LineId) : CountInput := s.cins[n]
def State.setCin (s : State) (n : LineId) (v : CountInput) : State := s.setCins (s.cins.set n v)
def State.group (s : State) (g : Fin 4) : BlinkGroup := s.groups[g]
def State.setGroup (s : State) (g : Fin 4) (v : BlinkGroup) : State := s.setGroups (s.groups.set g v)
def State.zone (s : State) (z : Fin 16) : Option Zone := s.zones[z]
def State.setZone (s : State) (z : Fin 16) (v : Option Zone) : State := s.setZones (s.zones.set z v)
def State.tally (s : State) (t : TallyId) : Tally := s.tallies[t]
def State.setTally (s : State) (t : TallyId) (v : Tally) : State := s.setTallies (s.tallies.set t v)
def State.glyph (s : State) (g : Fin 4) : GlyphSet := s.glyphs[g]
def State.setGlyph (s : State) (g : Fin 4) (v : GlyphSet) : State := s.setGlyphs (s.glyphs.set g v)
def State.channel (s : State) (c : Fin 4) : Channel := s.channels[c]
def State.setChannel (s : State) (c : Fin 4) (v : Channel) : State := s.setChannels (s.channels.set c v)
def State.port (s : State) (p : PanelId) : Port := s.ports[p]
def State.setPort (s : State) (p : PanelId) (v : Port) : State := s.setPorts (s.ports.set p v)
def State.list (s : State) (p : PanelId) : List Entry := s.lists[p]
def State.setList (s : State) (p : PanelId) (v : List Entry) : State := s.setLists (s.lists.set p v)
def State.region (s : State) (p : PanelId) : Memory := s.regions[p]
def State.setRegion (s : State) (p : PanelId) (v : Memory) : State := s.setRegions (s.regions.set p v)

def State.ring (s : State) : RingId → Ring
  | .u => s.ringU
  | .b => s.ringB

def State.setRing (s : State) (r : RingId) (v : Ring) : State :=
  match r with
  | .u => s.setRingU v
  | .b => s.setRingB v

/-- The place of binding slot `k` of tally `t` (R136). -/
def placeOf (t : TallyId) (k : Fin 2) : Fin 32 := ⟨2 * t.val + k.val, by omega⟩

def State.binding (s : State) (t : TallyId) (k : Fin 2) : Option Binding := s.bindings[placeOf t k]
def State.setBinding (s : State) (t : TallyId) (k : Fin 2) (v : Option Binding) : State :=
  s.setBindings (s.bindings.set (placeOf t k) v)

def State.slot (s : State) (i : Fin 24) : SlotState := s.slots[i]

/-- Every binding present, with its tally and slot, in rising tally and slot order. -/
def State.placed (s : State) : List (TallyId × Fin 2 × Binding) :=
  (List.finRange 16).flatMap fun t => (List.finRange 2).filterMap fun k => (s.binding t k).map fun b => (t, k, b)

/-- Every zone present. -/
def State.zonesSet (s : State) : List Zone := s.zones.toList.filterMap id

/-! ## The setup values in use (R191). A value is 0 while no setup block has been loaded (log entry 19). -/

def State.ringSize (s : State) : RingId → Nat
  | .u => (s.dev.setup.map (·.sizeU)).getD 0
  | .b => (s.dev.setup.map (·.sizeB)).getD 0

def State.ringBase (s : State) : RingId → Nat
  | .u => (s.dev.setup.map (·.baseU.toNat)).getD 0
  | .b => (s.dev.setup.map (·.baseB.toNat)).getD 0

def State.completionSize (s : State) : Nat := (s.dev.setup.map (·.completionSize)).getD 0
def State.completionBase (s : State) : Nat := (s.dev.setup.map (·.completionBase.toNat)).getD 0
def State.burstTimeoutUs (s : State) : Nat := (s.dev.setup.map (·.burstTimeout)).getD 0
def State.starvationLimit (s : State) : Nat := (s.dev.setup.map (·.starvationLimit)).getD 0

/-! ## Rectangles (R7, R8, R9) -/

/-- The packed row length of `w` pixels at depth `d` (R4). -/
def packedRow (w d : Nat) : Nat := ceilDiv (w * d) 8

/-- The cost of a rectangle at depth `d` (R7). -/
def Rect.cost (r : Rect) (d : Nat) : Nat := packedRow r.w d * r.h

/-- The staging slots a cost needs (R7). -/
def slotNeed (bytes : Nat) : Nat := ceilDiv bytes Config.slotBytes

/-- A rectangle valid for a configuration (R8), the sums in full range. -/
def Rect.validFor (r : Rect) (c : PanelConfig) : Bool :=
  1 ≤ r.w && 1 ≤ r.h && r.x + r.w ≤ c.width && r.y + r.h ≤ c.height

/-- Two rectangles of one panel share a pixel (R9). -/
def Rect.intersects (p q : Rect) : Bool :=
  p.x < q.x + q.w && q.x < p.x + p.w && p.y < q.y + q.h && q.y < p.y + p.h

/-- A rectangle meets a window (R9): `y + h - 1 ≥ first`, written without the subtraction. -/
def Rect.meets (r : Rect) (first last : Nat) : Bool := r.y ≤ last && first < r.y + r.h

def Rect.covers (r : Rect) (x y : Nat) : Bool := r.x ≤ x && x < r.x + r.w && r.y ≤ y && y < r.y + r.h

/-! ## What a configuration fixes (R11) -/

/-- L, the highest shade (R3). -/
def PanelConfig.highestShade (c : PanelConfig) : Nat := 2 ^ c.depth - 1
def PanelConfig.rowLength (c : PanelConfig) : Nat := c.width * c.depth / 8
def PanelConfig.budget (c : PanelConfig) : Nat := c.blankRows * Config.budgetPerBlankRow
def PanelConfig.windowRows (c : PanelConfig) : Nat := c.windowLast - c.windowFirst + 1
/-- in us -/
def PanelConfig.frameDuration (c : PanelConfig) : Nat := (c.blankRows + c.windowRows) * c.rowTime
def PanelConfig.laneLoad (c : PanelConfig) : Nat := c.width / c.lanes
def PanelConfig.setWindow (c : PanelConfig) (w : Nat × Nat) : PanelConfig :=
  { c with windowFirst := w.1, windowLast := w.2 }

/-! ## Regions and pixels (R1) -/

/-- The address of pixel (x, y) in a region (log entry 4). -/
def pixelAddress (x y : Nat) : Nat := y * Config.maxColumns + x

def Memory.shade (m : Memory) (x y : Nat) : Nat := (m.read (pixelAddress x y)).toNat

/-- The pixels (i, j) of a rectangle of width `w` and height `h`, row by row. -/
def rectPixels (w h : Nat) : List (Nat × Nat) :=
  (List.range h).flatMap fun j => (List.range w).map fun i => (i, j)

/-- Write shade `f i j` into pixel (x + i, y + j) of the region, for every pixel of the rectangle. -/
def paint (m : Memory) (r : Rect) (f : Nat → Nat → Nat) : Memory :=
  (rectPixels r.w r.h).foldl (fun m p => m.write (pixelAddress (r.x + p.1) (r.y + p.2)) (BitVec.ofNat 8 (f p.1 p.2))) m

/-! ## Packed rows (R4, R5) -/

/-- Pixel `i` of a row whose byte `i d / 8` is `b` (R4). -/
def unpackPixel (b : Byte) (i d : Nat) : Nat := b.toNat / 2 ^ (8 - (i * d) % 8 - d) % 2 ^ d

/-- Byte `k` of the packed row of `w` pixels at depth `d`, pixel `i` holding shade `f i`; pad bits are 0 (R4, R5). -/
def packByte (f : Nat → Nat) (w d k : Nat) : Byte :=
  BitVec.ofNat 8 <| (List.range (8 / d)).foldl (fun acc q =>
    let i := k * (8 / d) + q
    acc * 2 ^ d + if i < w then f i % 2 ^ d else 0) 0

/-! ## Staged bytes (R6) -/

/-- The address in the pool of staged byte `k` of a slot list (R6). -/
def stagedAddress (slots : List (Fin 24)) (k : Nat) : Nat :=
  (slots.getD (k / Config.slotBytes) 0).val * Config.slotBytes + k % Config.slotBytes

def stagedByte (m : Memory) (slots : List (Fin 24)) (k : Nat) : Byte := m.read (stagedAddress slots k)

/-- Store `f k` as staged byte `k`, for `n` bytes from `from` on. -/
def stageBytes (m : Memory) (slots : List (Fin 24)) (start n : Nat) (f : Nat → Byte) : Memory :=
  (List.range n).foldl (fun m j => m.write (stagedAddress slots (start + j)) (f (start + j))) m

/-! ## Packed digits (11.7.3) -/

/-- The packed-digit form of a value: digit i in bits 4 i + 3 to 4 i. -/
def packDigits : List Nat → Nat
  | [] => 0
  | v :: vs => v % 16 + 16 * packDigits vs

/-- The first `n` digits of a packed-digit field. -/
def unpackDigits : Nat → Nat → List Nat
  | 0, _ => []
  | n + 1, w => w % 16 :: unpackDigits n (w / 16)

/-! ## Device states -/

def Device.setState (d : Device) (v : DeviceState) : Device := { d with state := v }

/-- The states in which CPo writes and requests are kept (R178). -/
def State.writing (s : State) : Bool := s.dev.state == .active || s.dev.state == .paused

/-- The states in which tail and release writes are taken (R160, R181). -/
def State.takesIndices (s : State) : Bool :=
  s.dev.state == .active || s.dev.state == .paused || s.dev.state == .qfault

/-- STARTING, RUNNING or FROZEN: acceptance is open (R27) and a stop flushes (R37). -/
def PanelState.accepting : PanelState → Bool
  | .starting => true
  | .running => true
  | .frozen => true
  | .off => false
  | .draining => false
  | .faulted => false

/-- The states in which a port runs frames (R97). -/
def PanelState.runsFrames : PanelState → Bool
  | .draining => true
  | p => p.accepting

end Sys2Proof.Machine
end

