-- ==== Sys2Proof/Machine/Flags.lean ====
section
/-! DEFINITION. Codes, flags and what is computed from them: the codes of 11.7.2, the event flags and their load, the
free places of the completion ring, the interrupt line, and the registers as they read. -/

namespace Sys2Proof.Machine

/-! ## Codes -/

/-- The status codes (11.7.2). -/
def Status.code : Status → Nat
  | .ok => 0
  | .shown => 1
  | .hidden => 2
  | .cancelled => 3
  | .notFound => 4
  | .tooLarge => 5
  | .refusedState => 6
  | .refusedParam => 7
  | .conflict => 8
  | .inUse => 9
  | .listFull => 10
  | .fetchError => 11
  | .fetchTimeout => 12
  | .writeError => 13
  | .writeTimeout => 14
  | .panelStopped => 15
  | .panelFault => 16
  | .unknownKind => 17

/-- The device state codes (11.1). -/
def DeviceState.code : DeviceState → Nat
  | .init => 0
  | .halted => 1
  | .setup => 2
  | .active => 3
  | .paused => 4
  | .resetting => 5
  | .qfault => 6

/-- The cause codes of STATUS (11.3). -/
def Cause.code : Cause → Nat
  | .none => 0
  | .setupInvalid => 1
  | .setupRead => 2
  | .poster .cwriteError => 3
  | .poster .cwriteTimeout => 4
  | .poster .badRelease => 5

/-- The cause field beside a new cause with which the spec gives no field (log entry 31): a free value. -/
def Device.openCauseField (d : Device) (c : Cause) : Nat := (Config.causeFieldAfter c.code d.causeField).val

/-- The ring state codes of STATUS (11.3). -/
def RingState.code : RingState → Nat
  | .running => 0
  | .stalled _ => 1
  | .fault => 2

/-- The tally state codes (6.4). -/
def Tally.stateCode (t : Tally) : Nat :=
  match t.defn with
  | none => 0
  | some d =>
    match d.run with
    | .stopped => 1
    | .running => 2
    | .expired => 3

/-- The glyph set state codes (R130). -/
def GlyphSet.stateCode : GlyphSet → Nat
  | .empty => 0
  | .loading _ _ _ _ _ => 1
  | .ready _ _ _ _ => 2

/-- The origin codes (11.7.2). -/
def ringCode : RingId → Nat
  | .u => 0
  | .b => 1

/-- The origin code of an event record (11.7.2). -/
def eventOrigin : Nat := 2

/-- The cause codes of a RING_FAULT event's detail b (11.7.2). -/
def RingCause.code : RingCause → Nat
  | .readError => 1
  | .readTimeout => 2
  | .badTail => 3

/-- The kind codes of the event records (11.7.2). -/
def EventSource.kindCode : EventSource → Nat
  | .tallyEnd _ => 0x0100
  | .tallyWatch _ => 0x0101
  | .panelFault _ => 0x0102
  | .ringFault _ => 0x0103

/-! ## Event sources (R180) -/

/-- The position of a source in the cyclic order of R180. -/
def EventSource.position : EventSource → Nat
  | .ringFault .u => 0
  | .ringFault .b => 1
  | .panelFault p => 2 + p.val
  | .tallyEnd t => 6 + 2 * t.val
  | .tallyWatch t => 7 + 2 * t.val

/-- The 38 sources in their cyclic order (R180). -/
def eventSources : List EventSource :=
  [.ringFault .u, .ringFault .b] ++ (List.finRange 4).map .panelFault
    ++ (List.finRange 16).flatMap fun t => [.tallyEnd t, .tallyWatch t]

def State.ringFaultEvent (s : State) : RingId → Option RingCause
  | .u => s.cpo.ringFaultU
  | .b => s.cpo.ringFaultB

def State.panelFaultEvent (s : State) (p : PanelId) : Option Word := s.cpo.panelFaults[p]

/-- The source has an event waiting (R126, R175). -/
def State.eventSet (s : State) : EventSource → Bool
  | .ringFault r => (s.ringFaultEvent r).isSome
  | .panelFault p => (s.panelFaultEvent p).isSome
  | .tallyEnd t => (s.tally t).endCount != 0
  | .tallyWatch t => (s.tally t).watchCount != 0

/-- The sources that have an event waiting, in cyclic order from position 0. -/
def State.waitingEvents (s : State) : List EventSource := eventSources.filter s.eventSet

/-- The first set source from the event pointer onward, wrapping after 37 (R180). -/
def State.nextEvent (s : State) : Option EventSource :=
  (eventSources.drop s.cpo.eventPointer ++ eventSources.take s.cpo.eventPointer).find? s.eventSet

/-- The transfer in flight is CPo's (R175, "write in flight"). -/
def State.posterInFlight (s : State) : Option PosterWrite :=
  match s.flight with
  | some f =>
    match f.requester with
    | .poster w => some w
    | _ => none
  | none => none

/-- The record in flight is an event record (R177). -/
def State.eventInFlight (s : State) : Bool :=
  match s.posterInFlight with
  | some (.event _) => true
  | _ => false

/-- The event load (R177). -/
def State.eventLoad (s : State) : Nat := s.waitingEvents.length + if s.eventInFlight then 1 else 0

/-- A ring index difference: `(a - b) mod size` (5.3). -/
def indexGap (a b size : Nat) : Nat := (a + size - b) % size

/-- The free places of the completion ring (R177). -/
def State.freePlaces (s : State) : Nat :=
  s.completionSize - 1 - indexGap s.cpo.post s.cpo.release s.completionSize

/-- A read of the ring is in flight (R159). -/
def State.readInFlight (s : State) (r : RingId) : Bool :=
  match s.flight with
  | some f => f.requester == .ring r
  | none => false

/-! ## The interrupt line (R182) -/

/-- IRQ_n is asserted. -/
def State.irqAsserted (s : State) : Bool :=
  match s.dev.state with
  | .active => s.cpo.post != s.cpo.release && s.dev.intEnable
  | .paused => s.cpo.post != s.cpo.release && s.dev.intEnable
  | .qfault => true
  | .init => false
  | .halted => false
  | .setup => false
  | .resetting => false

/-! ## The registers as they read (11.3, R188) -/

/-- The eight registers of 11.3. -/
inductive Register where
  | control
  | status
  | setupLo
  | setupHi
  | uTail
  | bTail
  | cRelease
  | cPost
  deriving DecidableEq, Repr

/-- The byte offset of a register in the register window (11.3). -/
def Register.offset : Register → Nat
  | .control => 0x00
  | .status => 0x04
  | .setupLo => 0x08
  | .setupHi => 0x0C
  | .uTail => 0x10
  | .bTail => 0x14
  | .cRelease => 0x18
  | .cPost => 0x1C

/-- STATUS (11.3). -/
def State.statusWord (s : State) : Word :=
  word (s.dev.state.code + 16 * s.dev.cause.code + 256 * s.dev.causeField
    + 4096 * s.ringU.state.code + 16384 * s.ringB.state.code)

/-- What a read of a register returns (R188); 0 while RESET_n is asserted and in INIT (11.3). A read changes nothing. -/
def State.readRegister (s : State) (r : Register) : Word :=
  if s.dev.resetAsserted || s.dev.state == .init then 0
  else
    match r with
    | .control => word ((if s.dev.enable then 1 else 0) + if s.dev.intEnable then 4 else 0)
    | .status => s.statusWord
    | .setupLo => s.dev.setupAddress.extractLsb' 0 32
    | .setupHi => s.dev.setupAddress.extractLsb' 32 32
    | .uTail => word s.ringU.tail
    | .bTail => word s.ringB.tail
    | .cRelease => word s.cpo.release
    | .cPost => word s.cpo.post

/-! ## Event flags (R126) -/

/-- An occurrence of a flag's condition: a clear flag is set with count 1, a set one counts up to 255. -/
def bumpCount (n : Nat) : Nat := min (n + 1) Config.maxOccurrences

end Sys2Proof.Machine
end

