-- ==== Sys2Proof/Machine/Operands.lean ====
section
/-! DEFINITION. The operand forms: the fields of submission records and of the setup block as their bytes give them
(11.7.1, 11.7.3), the kinds, and the bytes of the records the part writes (11.7.2). All multi-byte fields are
little-endian. -/

namespace Sys2Proof.Machine

/-! ## Fields of a byte string -/

/-- Byte `i`; a byte beyond the end reads 0 (log entry 25: records are 64 bytes). -/
def byteAt (r : List Byte) (i : Nat) : Nat := (r.getD i 0).toNat

/-- The little-endian field of `n` bytes at offset `off`. -/
def fieldAt (r : List Byte) (off : Nat) : Nat → Nat
  | 0 => 0
  | n + 1 => byteAt r off + 256 * fieldAt r (off + 1) n

def field16 (r : List Byte) (off : Nat) : Nat := fieldAt r off 2
def field32 (r : List Byte) (off : Nat) : Nat := fieldAt r off 4
def field64 (r : List Byte) (off : Nat) : Nat := fieldAt r off 8

/-- The `n` bytes of a little-endian field. -/
def leBytes : Nat → Nat → List Byte
  | 0, _ => []
  | n + 1, v => BitVec.ofNat 8 v :: leBytes n (v / 256)

/-- A rect: four 16-bit values x, y, w, h (11.7.1). -/
def rectAt (r : List Byte) (off : Nat) : Rect where
  x := field16 r off
  y := field16 r (off + 2)
  w := field16 r (off + 4)
  h := field16 r (off + 6)

/-- The `n` bytes from `off` on, as numbers. -/
def bytesAt (r : List Byte) (off n : Nat) : List Nat := (List.range n).map fun i => byteAt r (off + i)

/-- A field that names one of `n` things, when it is in range. -/
def idOf (n v : Nat) : Option (Fin n) := if h : v < n then some ⟨v, h⟩ else none

/-! ## The common header (11.7.1, R165) -/

/-- The record kinds that name a command. -/
inductive Kind where
  | nop
  | sync
  | panelConfig
  | panelStart
  | panelStop
  | panelHold
  | panelWindow
  | update
  | fill
  | capture
  | cancel
  | glyphLoad
  | tallyBind
  | tallyUnbind
  | tallyDefine
  | tallyControl
  | tallyRead
  | blinkGroup
  | blinkZone
  | countInput
  deriving DecidableEq, Repr

/-- The kind codes (11.7.1). -/
def kindCodes : List (Nat × Kind) :=
  [(0x0001, .nop), (0x0002, .sync), (0x0010, .panelConfig), (0x0011, .panelStart), (0x0012, .panelStop),
   (0x0013, .panelHold), (0x0014, .panelWindow), (0x0020, .update), (0x0021, .fill), (0x0022, .capture),
   (0x0023, .cancel), (0x0030, .glyphLoad), (0x0031, .tallyBind), (0x0032, .tallyUnbind), (0x0040, .tallyDefine),
   (0x0041, .tallyControl), (0x0042, .tallyRead), (0x0050, .blinkGroup), (0x0051, .blinkZone), (0x0052, .countInput)]

def recordKindCode (r : List Byte) : Nat := field16 r 0

/-- The command a record's kind names, if any (R165). -/
def recordKind (r : List Byte) : Option Kind := kindCodes.lookup (recordKindCode r)

def recordTag (r : List Byte) : Word := word (field32 r 4)

/-- The reserved header area, bytes 2-3 and 8-15, is all zero (R165). -/
def headerClear (r : List Byte) : Bool := field16 r 2 == 0 && field64 r 8 == 0

/-! ## Bodies -/

/-- The first check of a list that fails, by its field number. -/
def firstFailing : List (Nat × Bool) → Option Nat
  | [] => none
  | (n, failing) :: rest => if failing then some n else firstFailing rest

/-- PANEL_CONFIG, fields 2 to 13 as their bytes give them. -/
structure ConfigBody where
  width : Nat
  height : Nat
  depth : Nat
  lanes : Nat
  rowTime : Nat
  blankRows : Nat
  first : Nat
  last : Nat
  drive : Nat
  k : Nat
  spreadA : Nat
  spreadB : Nat
  deriving DecidableEq, Repr

def configBody (r : List Byte) : ConfigBody where
  width := field16 r 18
  height := field16 r 20
  depth := byteAt r 22
  lanes := byteAt r 23
  rowTime := field16 r 24
  blankRows := byteAt r 26
  first := field16 r 28
  last := field16 r 30
  drive := byteAt r 32
  k := byteAt r 33
  spreadA := byteAt r 34
  spreadB := byteAt r 35

/-- The first of fields 2 to 13 that is out of range (R13). Drive mode codes: 0 NONE, 1 FRAME, 2 ROWS. -/
def ConfigBody.failing (b : ConfigBody) : Option Nat :=
  firstFailing
    [(2, b.width < 8 || 512 < b.width || b.width % 8 != 0),
     (3, b.height < 8 || 256 < b.height),
     (4, !(b.depth == 1 || b.depth == 2 || b.depth == 4)),
     (5, !(b.lanes == 1 || b.lanes == 2 || b.lanes == 4)),
     (6, b.rowTime < 4 || 1000 < b.rowTime),
     (7, b.blankRows < 1 || 16 < b.blankRows),
     (8, b.height ≤ b.first),
     (9, b.last < b.first || b.height ≤ b.last),
     (10, 2 < b.drive),
     (11, b.drive == 2 && (b.k < 1 || 64 < b.k)),
     (12, 15 < b.spreadA),
     (13, 15 < b.spreadB)]

/-- The configuration record that an accepted PANEL_CONFIG writes (R10). -/
def ConfigBody.config (b : ConfigBody) : PanelConfig where
  width := b.width
  height := b.height
  depth := b.depth
  lanes := b.lanes
  rowTime := b.rowTime
  blankRows := b.blankRows
  windowFirst := b.first
  windowLast := b.last
  driveMode := if b.drive == 0 then .none else if b.drive == 1 then .frame else .rows
  driveRows := if b.drive == 2 then some b.k else none
  spreadA := b.spreadA
  spreadB := b.spreadB

/-- UPDATE, FILL and CAPTURE (2.3). -/
structure EntryBody where
  panel : Nat
  rect : Rect
  /-- FILL only -/
  shade : Nat
  /-- UPDATE and CAPTURE only -/
  address : Nat
  /-- UPDATE and CAPTURE only -/
  stride : Nat
  deriving DecidableEq, Repr

def entryBody (r : List Byte) : EntryBody where
  panel := byteAt r 16
  rect := rectAt r 18
  shade := byteAt r 26
  address := field64 r 32
  stride := field32 r 40

/-- The first of fields 2 to 4 that R24 refuses. `address + stride (h - 1) + r - 1 > 2^64 - 1` is written without
the subtractions, since a rect that passes field 2 has h ≥ 1. -/
def EntryBody.failing (b : EntryBody) (kind : EntryKind) (c : PanelConfig) : Option Nat :=
  let r := packedRow b.rect.w c.depth
  firstFailing
    [(2, !b.rect.validFor c),
     (3, match kind with
       | .fill => c.highestShade < b.shade
       | .update => 2 ^ 64 < b.address + b.stride * (b.rect.h - 1) + r
       | .capture => 2 ^ 64 < b.address + b.stride * (b.rect.h - 1) + r),
     (4, match kind with
       | .fill => false
       | .update => b.stride < r
       | .capture => b.stride < r)]

/-- GLYPH_LOAD (7.2). -/
structure LoadBody where
  set : Nat
  width : Nat
  height : Nat
  separatorWidth : Nat
  address : Nat
  deriving DecidableEq, Repr

def loadBody (r : List Byte) : LoadBody where
  set := byteAt r 16
  width := byteAt r 17
  height := byteAt r 18
  separatorWidth := byteAt r 19
  address := field64 r 24

/-- The bytes of one glyph (R131). -/
def glyphBytes (width height : Nat) : Nat := ceilDiv width 8 * height

/-- The bytes of a whole set (R131). -/
def glyphSetBytes (width height : Nat) : Nat := 13 * glyphBytes width height

/-- TALLY_BIND (7.4). -/
structure BindBody where
  tally : Nat
  slot : Nat
  panel : Nat
  x : Nat
  y : Nat
  glyphSet : Nat
  pitch : Nat
  foreground : Nat
  background : Nat
  blankLeading : Nat
  separators : List Nat
  expiryGroup : Nat
  expiryPresent : Bool
  deriving DecidableEq, Repr

def bindBody (r : List Byte) : BindBody where
  tally := byteAt r 16
  slot := byteAt r 17
  panel := byteAt r 18
  x := field16 r 20
  y := field16 r 22
  glyphSet := byteAt r 24
  pitch := byteAt r 25
  foreground := byteAt r 26
  background := byteAt r 27
  blankLeading := byteAt r 28
  separators := bytesAt r 29 7
  expiryGroup := byteAt r 36
  expiryPresent := byteAt r 37 % 2 == 1

/-- The separator codes: 0 NONE, 1 COLON, 2 POINT (11.7.1). -/
def separatorOf : Nat → Option Separator
  | 0 => some .none
  | 1 => some .colon
  | 2 => some .point
  | _ => none

/-- TALLY_DEFINE (6.4.1). -/
structure DefineBody where
  tally : Nat
  n : Nat
  /-- eight entries, digit 0 first -/
  moduli : List Nat
  direction : Nat
  source : Nat
  endAction : Nat
  enables : Nat
  watchPresent : Bool
  reload : Nat
  initial : Nat
  watch : Nat
  deriving DecidableEq, Repr

def defineBody (r : List Byte) : DefineBody where
  tally := byteAt r 16
  n := byteAt r 17
  moduli := bytesAt r 18 8
  direction := byteAt r 26
  source := byteAt r 27
  endAction := byteAt r 28
  enables := byteAt r 29
  watchPresent := byteAt r 30 % 2 == 1
  reload := field32 r 32
  initial := field32 r 36
  watch := field32 r 40

/-- The source codes for tally `t`: 0-7 CIN0-CIN7, 8 P10MS, 9 P100MS, 10 P1S, 11 P1MIN, 12 HOST, 16 + k TALLY k with k
below t (R118, 11.7.1). -/
def sourceOf (t : TallyId) (code : Nat) : Option Source :=
  if h : code < 8 then some (.cin ⟨code, h⟩)
  else if code = 8 then some .p10ms
  else if code = 9 then some .p100ms
  else if code = 10 then some .p1s
  else if code = 11 then some .p1min
  else if code = 12 then some .host
  else if h : 16 ≤ code ∧ code - 16 < t.val then some (.tally ⟨code - 16, by omega⟩)
  else none

/-- The direction codes (11.7.1). -/
def directionOf : Nat → Option Direction
  | 0 => some .up
  | 1 => some .down
  | _ => none

/-- The end action codes (11.7.1). -/
def endActionOf : Nat → Option EndAction
  | 0 => some .stop
  | 1 => some .wrap
  | 2 => some .reload
  | _ => none

/-- TALLY_CONTROL (6.4.2). -/
structure ControlBody where
  tally : Nat
  operation : Nat
  value : Nat
  count : Nat
  deriving DecidableEq, Repr

def controlBody (r : List Byte) : ControlBody where
  tally := byteAt r 16
  operation := byteAt r 17
  value := field32 r 20
  count := field16 r 24

inductive TallyOperation where
  | start
  | stop
  | set
  | add
  deriving DecidableEq, Repr

/-- The operation codes (11.7.1). -/
def tallyOperationOf : Nat → Option TallyOperation
  | 0 => some .start
  | 1 => some .stop
  | 2 => some .set
  | 3 => some .add
  | _ => none

/-- The edge codes (11.7.1). -/
def edgeOf : Nat → Option EdgeKind
  | 0 => some .rise
  | 1 => some .fall
  | 2 => some .both
  | _ => none

/-- The scope byte of CANCEL that names all panels (11.7.1). -/
def scopeAll : Nat := 0xFF

/-! ## The setup block (11.7.3, R190) -/

def setupValuesOf (b : List Byte) : SetupValues where
  baseU := BitVec.ofNat 64 (field64 b 0)
  baseB := BitVec.ofNat 64 (field64 b 8)
  completionBase := BitVec.ofNat 64 (field64 b 16)
  sizeU := field16 b 24
  sizeB := field16 b 26
  completionSize := field16 b 28
  refMhz := byteAt b 30
  starvationLimit := byteAt b 31
  burstTimeout := field16 b 32

/-- The first field of the setup block that R190 fails. -/
def setupFailing (b : List Byte) : Option Nat :=
  let v := setupValuesOf b
  firstFailing
    [(1, v.baseU.toNat % 64 != 0 || 2 ^ 64 < v.baseU.toNat + 64 * v.sizeU),
     (2, !Config.ringSizes.contains v.sizeU),
     (3, v.baseB.toNat % 64 != 0 || 2 ^ 64 < v.baseB.toNat + 64 * v.sizeB),
     (4, !Config.ringSizes.contains v.sizeB),
     (5, v.completionBase.toNat % 16 != 0 || 2 ^ 64 < v.completionBase.toNat + 16 * v.completionSize),
     (6, !Config.ringSizes.contains v.completionSize),
     (7, v.refMhz < 4 || 64 < v.refMhz),
     (8, v.burstTimeout < 1 || 1023 < v.burstTimeout),
     (9, v.starvationLimit < 1 || 15 < v.starvationLimit),
     (10, (bytesAt b 34 30).any (· != 0))]

/-! ## The records CPo writes (11.7.2) -/

/-- The 16 bytes of a completion or event record. -/
def completionBytes (tag : Word) (kind status origin : Nat) (phase : Bool) (a b : Word) : List Byte :=
  leBytes 4 tag.toNat ++ leBytes 2 kind ++ leBytes 1 status ++ leBytes 1 (origin + if phase then 128 else 0)
    ++ leBytes 4 a.toNat ++ leBytes 4 b.toNat

end Sys2Proof.Machine
end

