-- ==== Sys2Proof/Machine/Poster.lean ====
section
/-! DEFINITION. The Completion Poster's shared operations (chapter 10) with the Record Taker's part in them: requesting,
writing and dropping completions, answering SYNCs, choosing the next write, handing in events, and entering QFAULT. -/

namespace Sys2Proof.Machine

/-! ## Outstanding records and SYNC (R170, R171) -/

/-- CPo tells RT that a completion has been written or dropped: its take number leaves the outstanding set. -/
def forget (t : Ticket) (s : State) : State :=
  s.setRing t.ring { s.ring t.ring with outstanding := (s.ring t.ring).outstanding.erase t.take }

/-- A dropped request lowers the reservation count and is reported to RT (R176, R184). -/
def dropTicket (t : Ticket) (s : State) : State :=
  forget t (s.setCpo { s.cpo with reserved := s.cpo.reserved - 1 })

/-- A request joins the tail of the request queue (R176). -/
def enqueue (c : Completion) (s : State) : State :=
  s.setCpo { s.cpo with queue := s.cpo.queue ++ [c] }

/-- The completion of a SYNC (R171). -/
def WaitingSync.completion (y : WaitingSync) : Completion where
  ticket := y.ticket
  status := .ok
  detailA := word y.earlier
  detailB := 0

def State.setSyncs (s : State) (r : RingId) (v : List WaitingSync) : State := s.setRing r { s.ring r with syncs := v }

/-- A completion request reaches CPo, by the device state: kept in ACTIVE and PAUSED (R176), dropped in QFAULT
(R184). In RESETTING, HALTED, SETUP and INIT nobody is left to answer (log entry 20). -/
def deliver (c : Completion) (s : State) : State :=
  match s.dev.state with
  | .active => enqueue c s
  | .paused => enqueue c s
  | .qfault => dropTicket c.ticket s
  | .init => s
  | .halted => s
  | .setup => s
  | .resetting => s

/-- Answer the waiting SYNCs of a ring, oldest first, each when no lower take number remains in the ring's outstanding
set (R171). The outstanding set stands in take order, so that is when the SYNC's own number is its first. -/
def answerSyncs (r : RingId) : List WaitingSync → State → State
  | [], s => s.setSyncs r []
  | y :: rest, s =>
    if (s.ring r).outstanding.head? = some y.ticket.take then answerSyncs r rest (deliver y.completion s)
    else s.setSyncs r (y :: rest)

/-- Answer the SYNCs of a ring that wait for nothing any more. -/
def settleSyncs (r : RingId) (s : State) : State := answerSyncs r (s.ring r).syncs s

/-- A completion is requested of CPo (R176); a request dropped in QFAULT may answer SYNCs (R172). -/
def request (c : Completion) (s : State) : State :=
  match s.dev.state with
  | .qfault => settleSyncs c.ticket.ring (deliver c s)
  | _ => deliver c s

/-- Request the completion of a record. -/
def answer (t : Ticket) (status : Status) (a b : Word) (s : State) : State :=
  request { ticket := t, status := status, detailA := a, detailB := b } s

/-- Request one completion for each of a list of records, in order, all with one status and details. -/
def answerAll (ts : List Ticket) (status : Status) (a b : Word) (s : State) : State :=
  ts.foldl (fun s t => answer t status a b s) s

/-! ## The choice of the next write (R178, R180) -/

/-- Choose the event the pointer finds first, and set the pointer to the position after it (R180). -/
def presentEvent (e : EventSource) (s : State) : State :=
  s.setCpo { s.cpo with
    presented := some (.event e), eventPointer := (e.position + 1) % 38, lastWritten := .event }

def presentCompletion (s : State) : State :=
  s.setCpo { s.cpo with presented := some .completion, lastWritten := .completion }

/-- The event that may be chosen: one is set, and free places exceed the reservations (R178). -/
def eventChoice (s : State) : Option EventSource :=
  if s.cpo.reserved < s.freePlaces then s.nextEvent else none

/-- CPo's choice (R178): in ACTIVE or PAUSED, with no write presented or in flight, one kind waiting is chosen, and of
both the one not last written. -/
def chooseWrite (s : State) : State :=
  if s.writing && s.cpo.presented.isNone && s.posterInFlight.isNone then
    match s.cpo.queue, eventChoice s with
    | [], none => s
    | [], some e => presentEvent e s
    | _ :: _, none => presentCompletion s
    | _ :: _, some e =>
      match s.cpo.lastWritten with
      | .completion => presentEvent e s
      | .event => presentCompletion s
  else s

/-- A write presented for an event that is no longer set is withdrawn from TU (R119, log entry 13). -/
def withdrawStaleEvent (s : State) : State :=
  match s.cpo.presented with
  | some (.event e) => if s.eventSet e then s else s.setCpo { s.cpo with presented := none }
  | _ => s

/-- The end of every step: CPo makes the choice that the step has made possible (log entry 12). -/
def finish (s : State) : Host.Outcome State Fault Refusal := .next (chooseWrite (withdrawStaleEvent s))

/-! ## Events (R91, R162) -/

/-- PPn hands CPo a PANEL_FAULT event: kept if none of the panel waits, discarded in RESETTING (R91). -/
def handPanelFault (p : PanelId) (frame : Word) (s : State) : State :=
  if s.dev.state = .resetting then s
  else
    match s.panelFaultEvent p with
    | some _ => s
    | none => s.setCpo { s.cpo with panelFaults := s.cpo.panelFaults.set p (some frame) }

/-- RT hands CPo the RING_FAULT event of a ring (R162). -/
def handRingFault (r : RingId) (c : RingCause) (s : State) : State :=
  match r with
  | .u => s.setCpo { s.cpo with ringFaultU := some c }
  | .b => s.setCpo { s.cpo with ringFaultB := some c }

/-- The source is clear from the issue of its record (R180). -/
def clearEvent (e : EventSource) (s : State) : State :=
  match e with
  | .ringFault .u => s.setCpo { s.cpo with ringFaultU := none }
  | .ringFault .b => s.setCpo { s.cpo with ringFaultB := none }
  | .panelFault p => s.setCpo { s.cpo with panelFaults := s.cpo.panelFaults.set p none }
  | .tallyEnd t => s.setTally t { s.tally t with endCount := 0 }
  | .tallyWatch t => s.setTally t { s.tally t with watchCount := 0 }

/-- A tally's value in packed-digit form, 0 when undefined. -/
def Tally.packed (t : Tally) : Nat :=
  match t.defn with
  | none => 0
  | some d => packDigits d.value

/-- Detail a of an event record (R127, R180, 11.7.2). For a tally 11.7.2 gives bits 19 to 16 and 7 to 0; bits 31 to 20
and 15 to 8 are 0 (log entry 35, DESIGN CHOICE). -/
def eventDetailA (e : EventSource) (s : State) : Word :=
  match e with
  | .ringFault r => word (ringCode r)
  | .panelFault p => word p.val
  | .tallyEnd t => word (65536 * t.val + (s.tally t).endCount)
  | .tallyWatch t => word (65536 * t.val + (s.tally t).watchCount)

/-- Detail b of an event record (R127, R180, 11.7.2): for a tally the value at posting. -/
def eventDetailB (e : EventSource) (s : State) : Word :=
  match e with
  | .ringFault r => word (((s.ringFaultEvent r).map RingCause.code).getD 0)
  | .panelFault p => (s.panelFaultEvent p).getD 0
  | .tallyEnd t => word (s.tally t).packed
  | .tallyWatch t => word (s.tally t).packed

/-- The 16 bytes of an event record (R174, R180). -/
def eventBytes (e : EventSource) (s : State) : List Byte :=
  completionBytes 0 e.kindCode Status.ok.code eventOrigin s.cpo.phase (eventDetailA e s) (eventDetailB e s)

/-- The 16 bytes of a completion record (R174). -/
def Completion.bytes (c : Completion) (phase : Bool) : List Byte :=
  completionBytes c.ticket.tag c.ticket.kind.toNat c.status.code (ringCode c.ticket.ring) phase c.detailA c.detailB

/-! ## QFAULT (R183, R184) -/

/-- Drop every request in the queue, in order; each drop is reported to RT and may answer SYNCs (R184). -/
def dropQueue (s : State) : State :=
  s.cpo.queue.foldl (fun s c => settleSyncs c.ticket.ring (dropTicket c.ticket s))
    (s.setCpo { s.cpo with queue := [] })

/-- The device enters QFAULT: DC and CPo record the cause, and no write is presented any more (R183, R194). The cause
field beside it is a free value (log entry 31). -/
def qfaultState (c : PosterCause) (s : State) : State :=
  (s.setDev { s.dev with
    state := .qfault, cause := .poster c, causeField := s.dev.openCauseField (.poster c) }).setCpo
    { s.cpo with faultCause := some c, presented := none }

/-- The entry into QFAULT with every waiting request dropped (R183, R184). -/
def enterQfault (c : PosterCause) (s : State) : State := dropQueue (qfaultState c s)

/-! ## The end of CPo's write (R179, R183, R185) -/

/-- Post moves past the written entry and the phase flips at the wrap (R179). -/
def advancePost (s : State) : State :=
  let next := (s.cpo.post + 1) % s.completionSize
  s.setCpo { s.cpo with post := next, phase := if next = 0 then !s.cpo.phase else s.cpo.phase }

/-- A completion or event record has been written. In RESETTING the reservation is already cleared and RT is told
nothing (R185). -/
def posterWritten (w : PosterWrite) (s : State) : State :=
  let s := advancePost s
  match w with
  | .event _ => s
  | .completion c =>
    if s.dev.state = .resetting then s else settleSyncs c.ticket.ring (dropTicket c.ticket s)

/-- A completion or event burst has failed: the device enters QFAULT from ACTIVE or PAUSED and the record is dropped
or lost; in QFAULT it is dropped or lost with no further change; in RESETTING the outcome is discarded (R183, R185). -/
def posterFailed (w : PosterWrite) (c : PosterCause) (s : State) : State :=
  let lose (s : State) : State :=
    match w with
    | .event _ => s
    | .completion d => settleSyncs d.ticket.ring (dropTicket d.ticket s)
  match s.dev.state with
  | .active => dropQueue (lose (qfaultState c s))
  | .paused => dropQueue (lose (qfaultState c s))
  | .qfault => lose s
  | .resetting => s
  | .init => s
  | .halted => s
  | .setup => s

end Sys2Proof.Machine
end

