-- ==== Sys2Proof/Machine/Transfer.lean ====
section
/-! DEFINITION. The Staging Pool's and the Transfer Unit's shared operations (chapter 4): allocation and freeing of
slots, stall release, the channel wait queue and its grants, bursts, withdrawal and abandonment. -/

namespace Sys2Proof.Machine

/-! ## Slots (R62 to R65) -/

/-- The FREE slots in rising order. -/
def State.freeSlots (s : State) : List (Fin 24) := (List.finRange 24).filter fun i => s.slot i == .free

def setSlotsOf (slots : List (Fin 24)) (v : SlotState) (s : State) : State :=
  s.setSlots (Vector.ofFn fun i => if i ∈ slots then v else s.slot i)

/-- Give every slot in state `x` the state `v`. -/
def moveSlots (x v : SlotState) (s : State) : State :=
  s.setSlots (Vector.ofFn fun i => if s.slot i = x then v else s.slot i)

/-- SP tells RT of a stalled ring whose recorded need the FREE count now meets, and RT makes it RUNNING (R65, R167). -/
def releaseStall (r : RingId) (s : State) : State :=
  match (s.ring r).state with
  | .stalled need => if need ≤ s.freeSlots.length then s.setRing r { s.ring r with state := .running } else s
  | .running => s
  | .fault => s

def releaseStalls (s : State) : State := releaseStall .b (releaseStall .u s)

/-- All slots of one owner become FREE, in one freeing event (R64, R65). -/
def freeOwned (o : Owner) (s : State) : State := releaseStalls (moveSlots (.owned o) .free s)

/-- Every RECLAIM slot becomes FREE at the end of the orphan burst (R64, R76). -/
def freeReclaimed (s : State) : State := releaseStalls (moveSlots .reclaim .free s)

/-- SP's allocation (R63): the lowest-numbered FREE slots, all or none. -/
def allocate (need : Nat) (o : Owner) (s : State) : Option (List (Fin 24) × State) :=
  if need ≤ s.freeSlots.length then
    some (s.freeSlots.take need, setSlotsOf (s.freeSlots.take need) (.owned o) s)
  else none

/-! ## Entries by owner -/

/-- The entry is the one that a record of ring `r` with take number `n` made. -/
def Entry.isOf (e : Entry) (r : RingId) (n : Word) : Bool := e.ticket.ring == r && e.ticket.take == n

/-- The owner that an entry of panel `p` is (R62). -/
def Entry.owner (e : Entry) (p : PanelId) : Owner := .entry p e.ticket.ring e.ticket.take

/-- The entry leaves its list; the others close up in order (R19). -/
def removeEntry (p : PanelId) (e : Entry) (s : State) : State :=
  s.setList p ((s.list p).filter fun x => !x.isOf e.ticket.ring e.ticket.take)

/-- Change the entry that owner `o` names. -/
def mapEntry (p : PanelId) (r : RingId) (n : Word) (f : Entry → Entry) (s : State) : State :=
  s.setList p ((s.list p).map fun x => if x.isOf r n then f x else x)

def findEntry (p : PanelId) (r : RingId) (n : Word) (s : State) : Option Entry :=
  (s.list p).find? fun x => x.isOf r n

/-! ## Channels and the wait queue (R69, R70) -/

/-- A grant moves the entry of a pixel fetch from QUEUED to FETCHING (R69). -/
def markGranted (op : Operation) (s : State) : State :=
  match op.owner with
  | .entry p r n =>
    mapEntry p r n (fun e => if e.state = .queued then { e with state := .fetching } else e) s
  | .glyph _ => s

/-- If channel `c` is FREE and the queue is not empty, its head is granted the channel. -/
def grantTo (s : State) (c : Fin 4) : State :=
  match s.channel c, s.waitQueue with
  | .free, op :: rest => markGranted op ((s.setWaitQueue rest).setChannel c (.loaded op))
  | _, _ => s

/-- TU's grants: lowest-numbered FREE channel first, until the queue is empty or no channel is FREE (R69). -/
def grantAll (s : State) : State := (List.finRange 4).foldl grantTo s

/-- An operation joins the tail of the wait queue. -/
def joinQueue (op : Operation) (s : State) : State := s.setWaitQueue (s.waitQueue ++ [op])

/-- An operation joins the queue, and is granted at once if a channel is FREE (R69). -/
def carry (op : Operation) (s : State) : State := grantAll (joinQueue op s)

def Channel.op : Channel → Option Operation
  | .free => none
  | .loaded op => some op
  | .inFlight op => some op

/-- The channel that holds an operation of the owner. -/
def channelOf (o : Owner) (s : State) : Option (Fin 4) :=
  (List.finRange 4).find? fun c => match (s.channel c).op with
    | some op => op.owner == o
    | none => false

/-! ## Bursts (R71, R72) -/

/-- The staged bytes of the whole operation. -/
def Operation.total (op : Operation) : Nat := op.rowBytes * op.rows

/-- The host address of staged byte `k` (R72). -/
def Operation.hostAddress (op : Operation) (k : Nat) : Nat :=
  op.address + op.stride * (k / op.rowBytes) + k % op.rowBytes

/-- The bytes left in the run of staged byte `done`: one run when the rows lie end to end, otherwise one a row (R71). -/
def Operation.runLeft (op : Operation) : Nat :=
  if op.stride = op.rowBytes then op.total - op.done else op.rowBytes - op.done % op.rowBytes

/-- The length of the next burst: up to the run's end or the next 256-byte-aligned address (R71). -/
def Operation.burstLength (op : Operation) : Nat :=
  min op.runLeft (Config.burstBytes - op.hostAddress op.done % Config.burstBytes)

/-- The burst just ended was the operation's last. -/
def Operation.isLast (op : Operation) : Bool := op.total ≤ op.done + op.burstLength

def Operation.advance (op : Operation) : Operation := { op with done := op.done + op.burstLength }

/-- The staged bytes that the next burst of a write-back carries (R72). -/
def burstData (op : Operation) (s : State) : List Byte :=
  if op.write then (List.range op.burstLength).map fun j => stagedByte s.staging op.slots (op.done + j) else []

/-- Store the bytes of a fetch burst in the staged positions they correspond to (R72). -/
def stageBurst (op : Operation) (data : List Byte) (s : State) : State :=
  s.setStaging (stageBytes s.staging op.slots op.done data.length fun k => data.getD (k - op.done) 0)

/-! ## Withdrawal (R76) -/

/-- The operation of an owner that goes away is removed from wherever it stands, and the owner's slots become FREE, or
RECLAIM while its burst is in flight (R76). With no operation under way the slots become FREE at once (R33). -/
def withdraw (o : Owner) (s : State) : State :=
  match channelOf o s with
  | some c =>
    match s.channel c with
    | .inFlight op =>
      grantAll (moveSlots (.owned o) .reclaim
        ((s.setFlight (s.flight.map fun f => { f with requester := .orphan op })).setChannel c .free))
    | _ => freeOwned o (grantAll (s.setChannel c .free))
  | none => freeOwned o (s.setWaitQueue (s.waitQueue.filter fun op => op.owner != o))

/-! ## Abandonment at a soft reset (R78) -/

/-- The owner whose burst is in flight on a channel. -/
def flyingOwner (s : State) : Option Owner :=
  match s.flight with
  | some f =>
    match f.requester with
    | .channel c => (s.channel c).op.map (·.owner)
    | _ => none
  | none => none

/-- The transfer in flight after the abandonment: a data burst runs on as an orphan. -/
def orphaned (s : State) : Option Flight :=
  match s.flight with
  | some f =>
    match f.requester with
    | .channel c =>
      match (s.channel c).op with
      | some op => some { f with requester := .orphan op }
      | none => some f
    | _ => some f
  | none => none

/-- TU abandons every data operation, and every slot becomes FREE but those of the burst in flight (R40, R78). -/
def abandonAll (s : State) : State :=
  let o := flyingOwner s
  (((s.setSlots (Vector.ofFn fun i =>
      match s.slot i with
      | .owned x => if o = some x then .reclaim else .free
      | .free => .free
      | .reclaim => .reclaim)).setFlight (orphaned s)).setWaitQueue []).setChannels
    (Vector.replicate 4 .free)

end Sys2Proof.Machine
end

