-- ==== Sys2Proof/Machine/Commit.lean ====
section
/-! DEFINITION. What a frame boundary does to the frame store (chapters 3 and 7): rendering of dirty bindings, the commit
walk, and the show accounting of a frame end; and the flushes of a pending list (2.6). -/

namespace Sys2Proof.Machine

/-! ## Completions of entries (R21) -/

/-- An entry leaves its list and its completion is requested (R21). -/
def leave (p : PanelId) (e : Entry) (status : Status) (a b : Word) (s : State) : State :=
  answer e.ticket status a b (removeEntry p e s)

/-! ## Rendering (R142, R143) -/

/-- The glyph drawn for digit `i` of a value with `blank` leading digits blanked (R143). -/
def glyphOf (value : List Nat) (blank i : Nat) : Nat :=
  if value.length ≤ i + blank && (value.drop i).all (· == 0) then 10 else value.getD i 0

def Separator.glyph : Separator → Option Nat
  | .none => Option.none
  | .colon => some 11
  | .point => some 12

/-- The cells of a binding's rect, left to right: glyph number and columns (R142). -/
def cells (value : List Nat) (b : Binding) (separatorWidth : Nat) : List (Nat × Nat) :=
  (List.range value.length).reverse.flatMap fun i =>
    (if i + 1 < value.length then
      match (b.separators.getD i .none).glyph with
      | some g => [(g, separatorWidth)]
      | none => []
    else []) ++ [(glyphOf value b.blankLeading i, b.pitch)]

/-- The cell that column `c` lies in: its glyph and the column within the cell. -/
def cellAt : List (Nat × Nat) → Nat → Option (Nat × Nat)
  | [], _ => none
  | (g, n) :: rest, c => if c < n then some (g, c) else cellAt rest (c - n)

/-- Column `c` of row `r` of glyph `g` in the one-bit form (R131). -/
def glyphBit (data : List Byte) (width height g c r : Nat) : Bool :=
  (data.getD (g * glyphBytes width height + r * ceilDiv width 8 + c / 8) 0).getLsbD (7 - c % 8)

/-- The shade rendered at column `i`, row `j` of a binding's rect (R142). -/
def renderShade (b : Binding) (value : List Nat) (width height separatorWidth : Nat) (data : List Byte) (i j : Nat) :
    Nat :=
  match cellAt (cells value b separatorWidth) i with
  | some (g, c) => if c < width && glyphBit data width height g c j then b.foreground else b.background
  | none => b.background

/-- CU renders a binding and clears its dirty mark (R46, R142). It needs the set's glyphs and the tally's value, which
the laws of the device give every binding (log entry 26). -/
def renderBinding (p : PanelId) (s : State) (x : TallyId × Fin 2) : State :=
  match s.binding x.1 x.2 with
  | none => s
  | some b =>
    if b.panel = p && b.dirty then
      match s.glyph b.glyphSet, (s.tally x.1).defn with
      | .ready w h sep data, some d =>
        (s.setRegion p (paint (s.region p) b.rect (renderShade b d.value w h sep data))).setBinding x.1 x.2
          (some { b with dirty := false })
      | _, _ => s
    else s

/-- The 32 places in rising tally and slot order. -/
def places : List (TallyId × Fin 2) := (List.finRange 16).flatMap fun t => (List.finRange 2).map fun k => (t, k)

/-- Render every dirty binding of the panel (R46). -/
def renderDirty (p : PanelId) (s : State) : State := places.foldl (renderBinding p) s

/-! ## Committing each kind (R52, R53, R54) -/

/-- The shade that a staged UPDATE gives pixel (i, j) of its rect, `r` bytes a row (R52). -/
def stagedShade (m : Memory) (slots : List (Fin 24)) (r depth i j : Nat) : Nat :=
  unpackPixel (stagedByte m slots (j * r + i * depth / 8)) i depth

/-- The bytes of a CAPTURE's snapshot (R54). -/
def snapshotByte (m : Memory) (q : Rect) (r depth k : Nat) : Byte :=
  packByte (fun i => m.shade (q.x + i) (q.y + k / r)) q.w depth (k % r)

/-- The packed row length of an entry's rect, by its cost at acceptance (R7, R17). -/
def Entry.rowBytes (e : Entry) : Nat := e.cost / e.rect.h

/-- The data operation that carries an entry (R69, R71). -/
def entryOperation (p : PanelId) (e : Entry) (write : Bool) : Operation where
  owner := e.owner p
  write := write
  address := e.address.getD 0
  stride := e.stride.getD 0
  rowBytes := e.rowBytes
  rows := e.rect.h
  slots := e.slots.getD []
  done := 0

/-- The entry as its commit leaves it: an UPDATE's slot list becomes absent, a CAPTURE keeps its own (R52 to R54). -/
def Entry.committed (e : Entry) (frame : Word) : Entry :=
  match e.kind with
  | .update => { e with state := .committed, slots := none, commitFrame := some frame }
  | .fill => { e with state := .committed, commitFrame := some frame }
  | .capture => { e with state := .writing, commitFrame := some frame }

/-- What a commit does outside the list, at panel depth `depth`. -/
def commitEffect (p : PanelId) (depth : Nat) (e : Entry) (s : State) : State :=
  match e.kind with
  | .update =>
    freeOwned (e.owner p) (s.setRegion p
      (paint (s.region p) e.rect (stagedShade s.staging (e.slots.getD []) e.rowBytes depth)))
  | .fill => s.setRegion p (paint (s.region p) e.rect fun _ _ => e.shade.getD 0)
  | .capture =>
    joinQueue (entryOperation p e true) (s.setStaging
      (stageBytes s.staging (e.slots.getD []) 0 e.cost (snapshotByte (s.region p) e.rect e.rowBytes depth)))

/-! ## The walk (R49) -/

/-- The walk's own state, with the part's state and the entries walked so far, last first (R49). -/
structure Walk where
  state : State
  blocking : List Rect
  bytes : Nat
  walked : List Entry

/-- The walk commits a READY entry when its rect meets nothing in the blocking set, and it is the first commit or fits
the budget (R49). -/
def mayCommit (budget : Nat) (w : Walk) (e : Entry) : Bool :=
  !w.blocking.any (e.rect.intersects ·) && (w.bytes == 0 || w.bytes + e.cost ≤ budget)

/-- One entry of the walk (R49). -/
def walkEntry (p : PanelId) (c : PanelConfig) (frame : Word) (w : Walk) (e : Entry) : Walk :=
  match e.state with
  | .committed => { w with walked := e :: w.walked }
  | .writing => { w with walked := e :: w.walked }
  | .queued => { w with blocking := e.rect :: w.blocking, walked := e :: w.walked }
  | .fetching => { w with blocking := e.rect :: w.blocking, walked := e :: w.walked }
  | .ready =>
    if mayCommit c.budget w e then
      { w with
        state := commitEffect p c.depth e w.state
        bytes := w.bytes + e.cost
        walked := e.committed frame :: w.walked }
    else { w with blocking := e.rect :: w.blocking, walked := e :: w.walked }

/-- The walk of a pending list from its head (R49). -/
def walkFrom (p : PanelId) (c : PanelConfig) (frame : Word) (w : Walk) (l : List Entry) : Walk :=
  l.foldl (walkEntry p c frame) w

/-- CU walks the panel's list; the write-backs it asks for then reach the channels in walk order (R49, R55). -/
def commitWalk (p : PanelId) (c : PanelConfig) (frame : Word) (s : State) : State :=
  let w := walkFrom p c frame { state := s, blocking := [], bytes := 0, walked := [] } (s.list p)
  grantAll (w.state.setList p w.walked.reverse)

/-! ## Show accounting (R57) -/

/-- One entry at a frame end: a COMMITTED entry that meets the window leaves SHOWN (R57). -/
def showEntry (p : PanelId) (first last : Nat) (frame : Word) (s : State) (e : Entry) : State :=
  if e.state = .committed && e.rect.meets first last then leave p e .shown frame (e.commitFrame.getD 0) s else s

/-- The show accounting of a frame end, from head to tail (R57). -/
def showEntries (p : PanelId) (first last : Nat) (frame : Word) (s : State) : State :=
  (s.list p).foldl (showEntry p first last frame) s

/-! ## Flushing a list (R37, R38, R40) -/

/-- One entry of a stop or fault flush: not yet committed, it leaves with `status`; COMMITTED, with HIDDEN; a WRITING
capture stays (R37, R38). A channel that it frees is granted before the next entry is removed (log entry 37, DESIGN
CHOICE). -/
def flushEntry (p : PanelId) (status : Status) (frame : Word) (s : State) (e : Entry) : State :=
  match e.state with
  | .queued => leave p e status frame 0 (withdraw (e.owner p) s)
  | .fetching => leave p e status frame 0 (withdraw (e.owner p) s)
  | .ready => leave p e status frame 0 (withdraw (e.owner p) s)
  | .committed => leave p e .hidden (e.commitFrame.getD 0) frame s
  | .writing => s

/-- The flush of a panel's list at a stop or a fault, from head to tail (R37, R38). -/
def flushList (p : PanelId) (status : Status) (frame : Word) (s : State) : State :=
  (s.list p).foldl (flushEntry p status frame) s

end Sys2Proof.Machine
end

