-- ==== Sys2Proof/Machine/Scan.lean ====
section
/-! DEFINITION. The panel ports' shared operations (chapter 5): boundaries and frames, entry to STARTING, DRAINING, OFF and
FAULTED, blink and shade at scan, the drive phase and the port's outputs. -/

namespace Sys2Proof.Machine

/-! ## Blink (R101, R154, R156) -/

/-- A group is on at ms count `m` (R154). -/
def BlinkGroup.isOn (g : BlinkGroup) (m : BitVec 64) : Bool :=
  let period := 10 * g.period
  100 * ((m - g.epoch).toNat % period) < g.duty * period

/-- The group is off at the present ms count (R156). -/
def groupOff (s : State) (g : Fin 4) : Bool := !(s.group g).isOn s.tb.ms

/-- The tally is EXPIRED. -/
def tallyExpired (s : State) (t : TallyId) : Bool :=
  match (s.tally t).defn with
  | none => false
  | some d => d.run == .expired

/-- The binding blinks its rect away in a frame decided now (R101, R144). -/
def bindingHidden (s : State) (t : TallyId) (b : Binding) : Bool :=
  match b.expiryGroup with
  | none => false
  | some g => tallyExpired s t && groupOff s g

/-- The invisible areas of an ordinary frame of panel `p` whose boundary does not carry FROZEN (R101). -/
def invisibleAreas (p : PanelId) (s : State) : List Rect :=
  (s.zonesSet.filter fun z => z.panel == p && groupOff s z.group).map (·.rect)
    ++ (s.placed.filter fun x => x.2.2.panel == p && bindingHidden s x.1 x.2.2).map (·.2.2.rect)

/-! ## The frame boundary (R42, R97) -/

def Phase.flip : Phase → Phase
  | .a => .b
  | .b => .a

/-- The start phase that a balance gives (R103). -/
def startPhase (c : PanelConfig) (balance : Bool) : Phase :=
  if c.driveMode = .none then .a else if balance then .b else .a

/-- The balance after a frame start (R103). -/
def toggled (c : PanelConfig) (balance : Bool) : Bool := if c.driveMode = .none then balance else !balance

/-- The kind of the frame that a panel in a given state runs (R97). -/
def frameKindOf : PanelState → FrameKind
  | .starting => .leadIn
  | .draining => .balancing
  | .off => .ordinary
  | .running => .ordinary
  | .frozen => .ordinary
  | .faulted => .ordinary

/-- The pending window, if one is recorded, is written into the record (R45, R87, R90). -/
def applyWindow (o : Port) : Port :=
  match o.pendingWindow with
  | none => o
  | some w => { o with config := o.config.map (·.setWindow w), pendingWindow := none }

/-- The frame number and shade phase of the next frame: 0 for the lead-in frame, one on for every other (R44, R100). -/
def advanceFrame (c : PanelConfig) (o : Port) : Port :=
  if o.state = .starting then { o with frameNumber := 0, shadePhase := 0 }
  else { o with frameNumber := o.frameNumber + 1, shadePhase := (o.shadePhase + 1) % c.highestShade }

/-- The frame that begins (R97, R101, R103). -/
def beginFrame (c : PanelConfig) (invisible : List Rect) (o : Port) : Port :=
  let phase := startPhase c o.balance
  { o with
    balance := toggled c o.balance
    phaseLine := phase
    frame := some
      { kind := frameKindOf o.state, first := c.windowFirst, last := c.windowLast, startPhase := phase,
        invisible := invisible, rowsDone := 0, elapsed := 0 } }

/-- CU's work at a RUNNING boundary: dirty bindings are rendered, then the list is walked (R42, R43). -/
def boundaryWork (p : PanelId) (c : PanelConfig) (frame : Word) (s : State) : State :=
  commitWalk p c frame (renderDirty p s)

/-- The invisible areas fixed at a boundary: none in a lead-in or balancing frame or when it carries FROZEN (R101). -/
def decidedAreas (p : PanelId) (s : State) : List Rect :=
  if (s.port p).state = .running then invisibleAreas p s else []

/-- The boundary of a configured panel's next frame, in the panel's state (R42, R43): the frame is numbered, the
pending window applied, the boundary's work done on a RUNNING panel, and the frame begun. -/
def boundary (p : PanelId) (s : State) : State :=
  match (s.port p).config with
  | none => s
  | some c0 =>
    let o := applyWindow (advanceFrame c0 (s.port p))
    let c := o.config.getD c0
    let areas := decidedAreas p s
    let s := s.setPort p o
    let s := if o.state = .running then boundaryWork p c o.frameNumber s else s
    s.setPort p (beginFrame c areas (s.port p))

/-! ## OFF, drain and fault (R85 to R87, R90) -/

/-- The port with its outputs idle and no frame in progress (R99). -/
def Port.idle (o : Port) : Port := { o with frame := none, phaseLine := .a }

/-- Entry to OFF from DRAINING (R87): outputs idle, the pending window written, waiting stops answered OK. -/
def enterOff (p : PanelId) (s : State) : State :=
  let o := s.port p
  answerAll o.waitingStops .ok 0 0
    (s.setPort p { applyWindow o.idle with state := .off, waitingStops := [] })

/-- The end-of-drain check (R86): OFF at balance 0, a balancing frame at balance 1. -/
def drainCheck (p : PanelId) (s : State) : State :=
  if (s.port p).balance then boundary p s else enterOff p s

/-- The panel faults (R90). The frame number at the fault is that of the frame in progress or of the last one. -/
def takeFault (p : PanelId) (s : State) : State :=
  let o := s.port p
  let n := o.frameNumber
  let s := s.setPort p { applyWindow o.idle with state := .faulted, waitingStarts := [], waitingStops := [] }
  let s := if o.state = .draining then s else flushList p .panelFault n s
  let s := answerAll o.waitingStarts .panelFault n 0 s
  let s := answerAll o.waitingStops .panelFault n 0 s
  handPanelFault p n s

/-- Entry to STARTING (R82): frame number and shade phase 0, and the lead-in boundary at once; with the fault line
asserted the fault is taken before that boundary. -/
def enterStarting (p : PanelId) (s : State) : State :=
  let s := s.setPort p { s.port p with state := .starting, frameNumber := 0, shadePhase := 0 }
  if (s.port p).faultLine then takeFault p s else boundary p s

/-- Entry to DRAINING by PANEL_STOP from STARTING, RUNNING or FROZEN (R85): the list is flushed, waiting starts are
answered PANEL_STOPPED, and with no frame in progress the end-of-drain check is made at once. -/
def enterDraining (p : PanelId) (s : State) : State :=
  let o := s.port p
  let s := s.setPort p { o with state := .draining, waitingStarts := [] }
  let s := flushList p .panelStopped o.frameNumber s
  let s := answerAll o.waitingStarts .panelStopped o.frameNumber 0 s
  if o.frame.isNone then drainCheck p s else s

/-- Entry to DRAINING from FAULTED (R85): no flush, and the end-of-drain check at once. -/
def drainFromFault (p : PanelId) (s : State) : State :=
  drainCheck p (s.setPort p { s.port p with state := .draining })

/-- What a soft reset does at a port (R94). The list has been flushed without completions (R40). -/
def softResetPort (s : State) (p : PanelId) : State :=
  let o := s.port p
  if o.state.accepting then
    let s := s.setPort p { o with state := .draining, waitingStarts := [], waitingStops := [] }
    if o.frame.isNone then drainCheck p s else s
  else if o.state = .draining then s.setPort p { o with waitingStops := [] }
  else s

/-! ## Row transfers (R98, R100) -/

/-- A pixel of shade `v` at (x, y) is lit by the shade sequence in a frame of shade phase `phi` (R100). -/
def litByShade (c : PanelConfig) (phi x y v : Nat) : Bool :=
  (phi + c.spreadA * y + c.spreadB * x) % c.highestShade < v

/-- The value sent for column `x` of row `y` (R98): lit in an ordinary frame, by the shade sequence, outside the
invisible areas. -/
def litValue (c : PanelConfig) (f : Frame) (phi : Nat) (m : Memory) (x y : Nat) : Bool :=
  f.kind == .ordinary && litByShade c phi x y (m.shade x y) && !f.invisible.any (·.covers x y)

/-- The shift pulses of a row: pulse i carries column i lanes + l on lane l, unused lanes low (R98). -/
def rowPulses (c : PanelConfig) (value : Nat → Bool) : List (List Bool) :=
  (List.range c.laneLoad).map fun i =>
    (List.range 4).map fun l => if l < c.lanes then value (i * c.lanes + l) else false

def Frame.rows (f : Frame) : Nat := f.last - f.first + 1

/-- us from the boundary to the end of the next row transfer (R97). -/
def nextRowEnd (c : PanelConfig) (f : Frame) : Nat := (c.blankRows + f.rowsDone + 1) * c.rowTime

/-- In ROWS mode the phase line toggles after row transfers k, 2k, 3k, ... but not after the frame's last (R103). -/
def phaseAfterRow (c : PanelConfig) (f : Frame) (ph : Phase) : Phase :=
  match c.driveMode, c.driveRows with
  | .rows, some k => if (f.rowsDone + 1) % k = 0 ∧ f.rowsDone + 1 < f.rows then ph.flip else ph
  | _, _ => ph

/-- The row after the last one sent, with its values pulse by pulse (R98). -/
def rowOutput (c : PanelConfig) (f : Frame) (phi : Nat) (m : Memory) : RowOutput :=
  let y := f.first + f.rowsDone
  { row := y, pulses := rowPulses c fun x => litValue c f phi m x y }

/-- One row transfer: the row after the last one sent is shifted out and latched (R98). -/
def sendRow (c : PanelConfig) (f : Frame) (m : Memory) (o : Port) : Port :=
  { o with
    lastRow := some (rowOutput c f o.shadePhase m)
    phaseLine := phaseAfterRow c f o.phaseLine
    frame := some { f with rowsDone := f.rowsDone + 1 } }

/-! ## Output levels (R99) -/

/-- The levels of a port's outputs through the interval in progress: the blank interval, a row's transfer, or idle. -/
structure OutputLevels where
  /-- PnBLK, `true` for high -/
  blank : Bool
  /-- how often PnCLK is pulsed; at 0 it is held low -/
  clock : Nat
  /-- how often PnLAT is pulsed; at 0 it is held low -/
  latch : Nat
  /-- PnDAT0 to PnDAT3 at each pulse of PnCLK, `true` for high; with no pulse they are held low -/
  lanes : List (List Bool)
  /-- PnROW0 to PnROW7 -/
  row : Nat
  /-- PnPH -/
  phase : Phase
  deriving DecidableEq, Repr

/-- No pulse on PnCLK or PnLAT, and PnDAT low. -/
def quietLevels (blank : Bool) (row : Nat) (phase : Phase) : OutputLevels where
  blank := blank
  clock := 0
  latch := 0
  lanes := []
  row := row
  phase := phase

/-- The levels while a row is transferred (R98, R99). -/
def transferLevels (x : RowOutput) (phase : Phase) : OutputLevels where
  blank := false
  clock := x.pulses.length
  latch := 1
  lanes := x.pulses
  row := x.row
  phase := phase

/-- The levels inside a frame (R99). After its last row transfer the last row's levels stand (log entry 32). -/
def frameLevels (c : PanelConfig) (f : Frame) (m : Memory) (o : Port) : OutputLevels :=
  if f.elapsed < c.blankRows * c.rowTime then quietLevels true f.first f.startPhase
  else if f.rowsDone < f.rows then transferLevels (rowOutput c f o.shadePhase m) o.phaseLine
  else quietLevels false f.last o.phaseLine

/-- The output levels of a port whose panel's region is `m` (R99). Between a frame end and the next boundary the last
row's levels stand (log entry 32). -/
def Port.levels (m : Memory) (o : Port) : OutputLevels :=
  if o.state.runsFrames then
    match o.config, o.frame with
    | some c, some f => frameLevels c f m o
    | _, _ => quietLevels false ((o.lastRow.map (·.row)).getD 0) o.phaseLine
  else quietLevels true 0 .a

end Sys2Proof.Machine
end

