-- ==== Sys2Proof/Machine/Tally.lean ====
section
/-! DEFINITION. The Tally Unit's shared operations (chapter 6): one step of a tally, its flags, dirty marks and chain,
count edges, timebase periods and ADD. -/

namespace Sys2Proof.Machine

/-! ## Values (R106, R107) -/

/-- One unit up, with carry; from the terminal value the carry leaves every digit 0 (R107, R109). -/
def incrDigits : List Nat → List Nat → List Nat
  | m :: ms, v :: vs => if v + 1 < m then (v + 1) :: vs else 0 :: incrDigits ms vs
  | _, _ => []

/-- One unit down, with borrow; from the terminal value the borrow leaves every digit at its modulus - 1 (R107, R109). -/
def decrDigits : List Nat → List Nat → List Nat
  | m :: ms, v :: vs => if 0 < v then (v - 1) :: vs else (m - 1) :: decrDigits ms vs
  | _, _ => []

def TallyDef.digits (d : TallyDef) : Nat := d.moduli.length

/-- The terminal value (R106). -/
def TallyDef.terminal (d : TallyDef) : List Nat :=
  match d.direction with
  | .up => d.moduli.map (· - 1)
  | .down => d.moduli.map fun _ => 0

/-- The value one unit on in the tally's direction (R107). -/
def TallyDef.unitStep (d : TallyDef) : List Nat :=
  match d.direction with
  | .up => incrDigits d.moduli d.value
  | .down => decrDigits d.moduli d.value

/-- The lowest digit number at which a value has a digit not below its modulus (R106, R118, R122). -/
def badDigit : List Nat → List Nat → Option Nat
  | m :: ms, v :: vs => if m ≤ v then some 0 else (badDigit ms vs).map (· + 1)
  | _, _ => none

/-! ## One step (R107 to R110) -/

/-- What a step does to the record, and what it reports. -/
structure StepResult where
  next : TallyDef
  arrived : Bool
  carryOut : Bool
  deriving DecidableEq, Repr

/-- One step of a defined tally (R107 to R109). -/
def TallyDef.step (d : TallyDef) : StepResult :=
  if d.value = d.terminal then
    match d.endAction with
    | .stop => { next := { d with run := .expired }, arrived := false, carryOut := false }
    | .wrap => { next := { d with value := d.unitStep }, arrived := d.unitStep = d.terminal, carryOut := true }
    | .reload =>
      let v := d.reload.getD []
      { next := { d with value := v }, arrived := v = d.terminal, carryOut := true }
  else
    let v := d.unitStep
    { next := { d with
        value := v
        run := if v = d.terminal ∧ d.endAction = .stop then .expired else d.run }
      arrived := v = d.terminal
      carryOut := false }

/-- The step's new value equals the watch value, when one is present (R110). -/
def TallyDef.matchesWatch (d : TallyDef) : Bool := d.watch == some d.value

/-- The tally after one step, with its flags (R108, R110, R126). -/
def Tally.afterStep (t : Tally) (d : TallyDef) : Tally where
  defn := some d.step.next
  endCount := if d.step.arrived && d.endEnabled then bumpCount t.endCount else t.endCount
  watchCount := if d.step.next.matchesWatch && d.watchEnabled then bumpCount t.watchCount else t.watchCount

/-- GB sets the dirty mark of each present binding of the tally (R111, R141). -/
def markDirty (t : TallyId) (s : State) : State :=
  (List.finRange 2).foldl (fun s k => s.setBinding t k ((s.binding t k).map fun b => { b with dirty := true })) s

/-- A step is taken by tally `t`, and whether it is a carry-out (R111). -/
def takeStep (t : TallyId) (s : State) : State × Bool :=
  match (s.tally t).defn with
  | none => (s, false)
  | some d => (markDirty t (s.setTally t ((s.tally t).afterStep d)), d.step.carryOut)

/-! ## Chains (R112, R116) -/

/-- The tally is RUNNING with the given source. -/
def runsFrom (s : State) (t : TallyId) (x : Source) : Bool :=
  match (s.tally t).defn with
  | none => false
  | some d => d.run == .running && d.source == x

/-- Tally `t` in the chain of the carry-outs made so far: a RUNNING tally whose source made one takes a step. -/
def chainLink (acc : State × List TallyId) (t : TallyId) : State × List TallyId :=
  if acc.2.any fun k => runsFrom acc.1 t (.tally k) then
    let r := takeStep t acc.1
    (r.1, if r.2 then t :: acc.2 else acc.2)
  else acc

/-- A step of tally `t` with its whole chain, in rising tally number (R112). -/
def stepWithChain (t : TallyId) (s : State) : State :=
  let r := takeStep t s
  if r.2 then ((List.finRange 16).foldl chainLink (r.1, [t])).1 else r.1

/-! ## Sources (R114, R115) -/

/-- An accepted edge of line `n` is one step for every RUNNING tally whose source is CINn (R114). -/
def countEdge (n : LineId) (s : State) : State :=
  (List.finRange 16).foldl (fun s t => if runsFrom s t (.cin n) then stepWithChain t s else s) s

/-- The period of a timebase source, in ms (R115). -/
def Source.period : Source → Option Nat
  | .p10ms => some 10
  | .p100ms => some 100
  | .p1s => some 1000
  | .p1min => some 60000
  | .cin _ => none
  | .host => none
  | .tally _ => none

/-- The ms remainder is at the last ms before the period, in a RUNNING tally with a timebase source. -/
def periodDue (s : State) (t : TallyId) : Bool :=
  match (s.tally t).defn with
  | none => false
  | some d => d.run == .running &&
    match d.source.period with
    | none => false
    | some n => n ≤ d.remainder.getD 0 + 1

def Tally.setRemainder (t : Tally) (n : Nat) : Tally := { t with defn := t.defn.map fun d => { d with remainder := some n } }

/-- An ms tick at tally `t` (R115): the remainder of a RUNNING tally with a timebase source rises by one, and at the
period it becomes 0 and the tally takes one step with its chain. -/
def tallyMs (s : State) (t : TallyId) : State :=
  match (s.tally t).defn with
  | none => s
  | some d =>
    if d.run = .running ∧ d.source.period.isSome then
      if periodDue s t then stepWithChain t (s.setTally t ((s.tally t).setRemainder 0))
      else s.setTally t ((s.tally t).setRemainder (d.remainder.getD 0 + 1))
    else s

/-! ## ADD (R123) -/

/-- Up to `n` steps one by one, each with its chain; they end when a step makes the tally EXPIRED. The number of steps
taken is the second component (R123). -/
def addSteps (t : TallyId) : Nat → State → State × Nat
  | 0, s => (s, 0)
  | n + 1, s =>
    let s := stepWithChain t s
    if tallyExpired s t then (s, 1)
    else
      let r := addSteps t n s
      (r.1, r.2 + 1)

end Sys2Proof.Machine
end

