-- ==== Sys2Proof/Machine/Timebase.lean ====
section
/-! DEFINITION. The timebase and the count inputs (chapter 8): us and ms ticks at every consumer, the filters, and the
commands that name a tick by what it brings about. -/

namespace Sys2Proof.Machine

/-! ## Filtered edges (R150, R151) -/

/-- A filtered edge to the level `up` matches the line's edge setting (R151). -/
def EdgeKind.accepts : EdgeKind → Bool → Bool
  | .rise, up => up
  | .fall, up => !up
  | .both, _ => true

/-- The line's accepted level takes its raw level, and the filtered edge goes to TY if it is accepted (R151). -/
def acceptLevel (n : LineId) (s : State) : State :=
  let c := s.cin n
  let s := s.setCin n { c with accepted := some c.raw, hold := 0 }
  if c.edge.accepts c.raw then countEdge n s else s

/-- The raw level differs from the accepted level (R150). -/
def CountInput.differs (c : CountInput) : Bool := c.accepted.isSome && c.accepted != some c.raw

/-- The next ms tick at which the level still holds brings the hold count to the filter (R150). -/
def CountInput.holdDue (c : CountInput) : Bool := c.differs && 1 ≤ c.filter && c.filter ≤ c.hold + 1

/-- An ms tick at line `n` (R150). -/
def lineMs (s : State) (n : LineId) : State :=
  let c := s.cin n
  if c.holdDue then acceptLevel n s
  else if c.differs && 1 ≤ c.filter then s.setCin n { c with hold := c.hold + 1 }
  else s

/-- The raw level of line `n` becomes `level` while TB watches the lines (R150). -/
def rawChange (n : LineId) (level : Bool) (s : State) : State :=
  let s := s.setCin n { s.cin n with raw := level }
  if (s.cin n).filter = 0 then
    if (s.cin n).differs then acceptLevel n s else s
  else if (s.cin n).differs then s
  else s.setCin n { s.cin n with hold := 0 }

/-- The line takes its raw level as accepted, with no edge delivered (R149, R152). -/
def CountInput.settle (c : CountInput) : CountInput := { c with accepted := some c.raw, hold := 0 }

/-! ## Ticks (R146, R148) -/

def Frame.tick (f : Frame) : Frame := { f with elapsed := f.elapsed + 1 }

/-- A us tick at the ports and at TU (R148). -/
def usConsumers (s : State) : State :=
  (s.setPorts (Vector.ofFn fun p : PanelId => { s.port p with frame := (s.port p).frame.map Frame.tick })).setFlight
    (s.flight.map fun f => { f with elapsed := f.elapsed + 1 })

/-- An ms tick at TY and at the filters (R115, R148, R150). -/
def msConsumers (s : State) : State :=
  (List.finRange 8).foldl lineMs ((List.finRange 16).foldl tallyMs s)

/-- The next us tick brings the us count to a multiple of 1000, and so is an ms tick (R146). -/
def nextIsMs (s : State) : Bool := (s.tb.us + 1).toNat % Config.usPerMs == 0

/-- One us tick, which is also an ms tick when it brings the us count to a multiple of 1000 (R146, R148). While the
timebase is not running no tick is made. -/
def tick (s : State) : State :=
  if s.tb.running then
    if nextIsMs s then
      msConsumers (usConsumers (s.setTb { s.tb with us := s.tb.us + 1, ms := s.tb.ms + 1 }))
    else usConsumers (s.setTb { s.tb with us := s.tb.us + 1 })
  else s

/-! ## The commands -/

/-- US_TICK (R146): one us tick. -/
def execUsTick (s : State) : Host.Outcome State Fault Refusal := finish (tick s)

/-- MS_TICK (R146): the us tick that brings the us count to a multiple of 1000. -/
def execMsTick (s : State) : Host.Outcome State Fault Refusal :=
  if nextIsMs s then finish (tick s) else .next s

/-- TIMEBASE_PERIOD_STEP (R115): the ms tick at which the tally's ms remainder reaches its period (log entry 7). -/
def execTimebasePeriodStep (tally : TallyId) (s : State) : Host.Outcome State Fault Refusal :=
  if nextIsMs s && periodDue s tally then finish (tick s) else .next s

/-- FILTER_HOLD_EXPIRY (R150): the ms tick at which the line's hold count reaches its filter (log entry 7). -/
def execFilterHoldExpiry (line : LineId) (s : State) : Host.Outcome State Fault Refusal :=
  if nextIsMs s && (s.cin line).holdDue then finish (tick s) else .next s

/-- CIN_LEVEL_CHANGE (R150): the raw level changes; TB watches the lines only while the timebase runs (R149). -/
def execCinLevelChange (line : LineId) (level : Bool) (s : State) : Host.Outcome State Fault Refusal :=
  if (s.cin line).raw = level then .next s
  else if s.tb.running then finish (rawChange line level s)
  else .next (s.setCin line { s.cin line with raw := level })

end Sys2Proof.Machine
end

