-- ==== Sys2Proof/Machine/Rings.lean ====
section
/-! DEFINITION. The Record Taker (chapter 9): ring faults, the ring's part in reads and tail writes, the arbiter, and the
dispatch that every record command shares; and the records that RT owns, NOP, SYNC and those of an unknown kind. -/

namespace Sys2Proof.Machine

/-! ## Ring faults (R162) -/

/-- A ring enters RING_FAULT: its holder is emptied, its need dropped with the STALLED state, and CPo is handed the
event (R162). -/
def faultRing (r : RingId) (c : RingCause) (s : State) : State :=
  handRingFault r c (s.setRing r { s.ring r with state := .fault, holder := none })

/-! ## Taking (R163, R164, R166) -/

/-- The ring is able (R163). -/
def ringAble (s : State) (r : RingId) : Bool :=
  s.dev.state == .active && (s.ring r).state == .running && (s.ring r).holder.isSome
    && s.cpo.reserved + s.eventLoad < s.freePlaces

/-- The ring the arbiter chooses, if one is able (R166). -/
def chosenRing (s : State) : Option RingId :=
  match ringAble s .u, ringAble s .b with
  | true, false => some .u
  | false, true => some .b
  | true, true => if s.passOver < s.starvationLimit then some .u else some .b
  | false, false => none

/-- The pass-over count after the choice (R166). -/
def passOverAfter (s : State) (r : RingId) : Nat :=
  match r with
  | .b => 0
  | .u => if ringAble s .b then s.passOver + 1 else s.passOver

/-- The ticket of the record about to be taken from a ring. -/
def ticketOf (s : State) (r : RingId) (record : List Byte) : Ticket where
  tag := recordTag record
  kind := BitVec.ofNat 16 (recordKindCode record)
  ring := r
  take := (s.ring r).take + 1

/-- The take (R164): a completion place is reserved, the head moves past the record, the holder is emptied, and the
record's take number joins the outstanding set. -/
def takeRecord (r : RingId) (s : State) : State :=
  let g := s.ring r
  (s.setRing r { g with
      head := (g.head + 1) % s.ringSize r
      holder := none
      take := g.take + 1
      outstanding := g.outstanding ++ [g.take + 1] }).setCpo
    { s.cpo with reserved := s.cpo.reserved + 1 }

/-- The withdrawal: the ring becomes STALLED and SP records the need (R65, R167). -/
def stallRing (r : RingId) (need : Nat) (s : State) : State :=
  s.setRing r { s.ring r with state := .stalled need }

/-- What the owner of a record answers at its dispatch (R164): a completion at once, with the state after the owner's
effect; an acceptance whose completion comes later; or the record returned for lack of staging slots. -/
inductive Ruling where
  | answered (status : Status) (a b : Word) (s : State)
  | accepted (s : State)
  | withdrawn (need : Nat)

/-- A refusal, which changes nothing. -/
def refuse (status : Status) (a b : Nat) (s : State) : Ruling := .answered status (word a) (word b) s

/-- What the owner's ruling makes of the part. -/
def settleRuling (r : RingId) (t : Ticket) (s : State) : Ruling → State
  | .answered status a b s' => answer t status a b s'
  | .accepted s' => s'
  | .withdrawn need => stallRing r need s

/-- The owners' checks and effects: from the record's ticket, its bytes and the state in which it has been taken. -/
abbrev RecordOwner := Ticket → List Byte → State → Ruling

/-- RT's dispatch of the chosen ring's held record (R164, R165): the header check of the reserved area, then the
owner. -/
def dispatchHeld (owner : RecordOwner) (r : RingId) (record : List Byte) (s : State) : State :=
  let t := ticketOf s r record
  let s0 := s.setPassOver (passOverAfter s r)
  let taken := takeRecord r s0
  if headerClear record then settleRuling r t s0 (owner t record taken)
  else answer t .refusedParam 0 0 taken

/-- The dispatch of a record of the given kind: it takes place when the arbiter's choice is a ring whose held record
has that kind (R164 to R166; log entry 8). -/
def dispatch (kind : Kind) (owner : RecordOwner) (s : State) : Host.Outcome State Fault Refusal :=
  match chosenRing s with
  | none => .next s
  | some r =>
    match (s.ring r).holder with
    | none => .next s
    | some record =>
      if recordKind record = some kind then finish (dispatchHeld owner r record s) else .next s

/-! ## NOP, SYNC, and records of an unknown kind -/

/-- NOP (R169): OK at once. -/
def nopOwner : RecordOwner := fun _ _ s => .answered .ok 0 0 s

def execNop (s : State) : Host.Outcome State Fault Refusal := dispatch .nop nopOwner s

/-- SYNC (R171): the earlier-taken records outstanding are counted, and it is answered when none of them remains. -/
def syncOwner : RecordOwner := fun t _ s =>
  let earlier := (s.ring t.ring).outstanding.length - 1
  .accepted (settleSyncs t.ring (s.setSyncs t.ring ((s.ring t.ring).syncs ++ [{ ticket := t, earlier := earlier }])))

def execSync (s : State) : Host.Outcome State Fault Refusal := dispatch .sync syncOwner s

/-- A record whose kind names no command (R165): taken, and answered UNKNOWN_KIND with the kind value, before the
reserved header area is looked at. -/
def execUnknownKind (s : State) : Host.Outcome State Fault Refusal :=
  match chosenRing s with
  | none => .next s
  | some r =>
    match (s.ring r).holder with
    | none => .next s
    | some record =>
      if recordKind record = none then
        finish (answer (ticketOf s r record) .unknownKind (word (recordKindCode record)) 0
          (takeRecord r (s.setPassOver (passOverAfter s r))))
      else .next s

end Sys2Proof.Machine
end

