-- ==== Sys2Proof/Machine/BlinkRecords.lean ====
section
/-! DEFINITION. The blink and count input commands (chapter 8): BLINK_GROUP, BLINK_ZONE, COUNT_INPUT. -/

namespace Sys2Proof.Machine

/-- BLINK_GROUP (R155). Detail b of REFUSED_PARAM is 0 (log entry 16, DESIGN CHOICE). -/
def blinkGroupOwner : RecordOwner := fun _ record s =>
  let period := field16 record 18
  let duty := byteAt record 20
  match idOf 4 (byteAt record 16) with
  | none => refuse .refusedParam 1 0 s
  | some g =>
    if period < 2 || 500 < period then refuse .refusedParam 2 0 s
    else if !(duty == 25 || duty == 50 || duty == 75) then refuse .refusedParam 3 0 s
    else .answered .ok 0 0 (s.setGroup g { period := period, duty := duty, epoch := s.tb.ms })

def execBlinkGroup (s : State) : Host.Outcome State Fault Refusal := dispatch .blinkGroup blinkGroupOwner s

/-- The completion of an accepted BLINK_ZONE: detail a says whether the place held a zone before (R158). -/
def zoneAnswer (z : Fin 16) (v : Option Zone) (s : State) : Ruling :=
  .answered .ok (if (s.zone z).isSome then 1 else 0) 0 (s.setZone z v)

/-- BLINK_ZONE SET (R158, steps 3 to 5). Detail b of REFUSED_PARAM is 0 (log entry 16, DESIGN CHOICE). -/
def zoneSet (z : Fin 16) (record : List Byte) (s : State) : Ruling :=
  match idOf 4 (byteAt record 18) with
  | none => refuse .refusedParam 3 0 s
  | some p =>
    match (s.port p).config with
    | none => refuse .refusedParam 3 0 s
    | some c =>
      if !(rectAt record 20).validFor c then refuse .refusedParam 4 0 s
      else
        match idOf 4 (byteAt record 28) with
        | none => refuse .refusedParam 5 0 s
        | some g => zoneAnswer z (some { panel := p, rect := rectAt record 20, group := g }) s

/-- BLINK_ZONE (R158): operation 0 CLEAR, 1 SET. Detail b of REFUSED_PARAM is 0 (log entry 16, DESIGN CHOICE). -/
def blinkZoneOwner : RecordOwner := fun _ record s =>
  match idOf 16 (byteAt record 16) with
  | none => refuse .refusedParam 1 0 s
  | some z =>
    if byteAt record 17 = 0 then zoneAnswer z none s
    else if byteAt record 17 = 1 then zoneSet z record s
    else refuse .refusedParam 2 0 s

def execBlinkZone (s : State) : Host.Outcome State Fault Refusal := dispatch .blinkZone blinkZoneOwner s

/-- COUNT_INPUT (R152). Detail b of REFUSED_PARAM is 0 (log entry 16, DESIGN CHOICE). -/
def countInputOwner : RecordOwner := fun _ record s =>
  match idOf 8 (byteAt record 16) with
  | none => refuse .refusedParam 1 0 s
  | some n =>
    match edgeOf (byteAt record 17) with
    | none => refuse .refusedParam 2 0 s
    | some edge =>
      let filter := byteAt record 18
      if 15 < filter then refuse .refusedParam 3 0 s
      else
        .answered .ok (if (s.cin n).raw then 1 else 0) 0
          (s.setCin n ({ s.cin n with edge := edge, filter := filter } : CountInput).settle)

def execCountInput (s : State) : Host.Outcome State Fault Refusal := dispatch .countInput countInputOwner s

end Sys2Proof.Machine
end

