-- ==== Sys2Proof/Machine/Bus.lean ====
section
/-! DEFINITION. The Transfer Unit at the system bus (chapter 4): the arbiter's issue of a burst, the ends of bursts by
their outcomes and requesters, timeouts, and late answers. The setup read's end is in Machine/Setup.lean. -/

namespace Sys2Proof.Machine

/-! ## Waiting transfers (R67, R68, R79) -/

/-- The address of the setup read that DC presents, if it presents one: the setup address of the entry to SETUP (R188,
R189). -/
def State.setupWaits (s : State) : Option Addr := if s.dev.state = .setup then s.dev.setupRead else none

/-- RT presents a record read for the ring (R161). With the bus free no read of it is in flight. -/
def State.ringWaits (s : State) (r : RingId) : Bool :=
  s.writing && (s.ring r).state == .running && (s.ring r).holder.isNone && (s.ring r).head != (s.ring r).tail

/-- The first channel presenting a burst, in the round robin's order from the next-channel pointer (R68). -/
def State.nextChannel (s : State) : Option (Fin 4 × Operation) :=
  ((List.finRange 4).map fun k => s.rrNext + k).findSome? fun c =>
    match s.channel c with
    | .loaded op => some (c, op)
    | .free => none
    | .inFlight _ => none

/-! ## Issue (R68, R70, R72, R180) -/

/-- The host address of the entry CPo writes next (R174). -/
def State.postAddress (s : State) : Nat := s.completionBase + 16 * s.cpo.post

/-- CPo's record goes on the bus: it is no longer presented. -/
def issuePoster (w : PosterWrite) (bytes : List Byte) (s : State) : State :=
  (s.setCpo { s.cpo with presented := none }).setFlight (some
    { requester := .poster w, write := true, address := s.postAddress, length := 16, data := bytes, elapsed := 0 })

/-- The head of the request queue goes on the bus (R178). -/
def issueCompletion (s : State) : State :=
  match s.cpo.queue with
  | [] => s
  | c :: rest => issuePoster (.completion c) (c.bytes s.cpo.phase) (s.setCpo { s.cpo with queue := rest })

/-- An event's record goes on the bus: its details are taken and its source cleared (R180). -/
def issueEvent (e : EventSource) (s : State) : State := issuePoster (.event e) (eventBytes e s) (clearEvent e s)

/-- A 64-byte read goes on the bus. -/
def issueRead (q : Requester) (address : Nat) (s : State) : State :=
  s.setFlight (some { requester := q, write := false, address := address, length := 64, data := [], elapsed := 0 })

/-- The setup read goes on the bus: DC presents it no more. -/
def issueSetup (a : Addr) (s : State) : State := issueRead .setup a.toNat (s.setDev { s.dev with setupRead := none })

/-- A channel's next burst goes on the bus, and the next-channel pointer moves past the channel (R68, R70). -/
def issueChannel (c : Fin 4) (op : Operation) (s : State) : State :=
  ((s.setChannel c (.inFlight op)).setRrNext (c + 1)).setFlight (some
    { requester := .channel c, write := op.write, address := op.hostAddress op.done, length := op.burstLength,
      data := burstData op s, elapsed := 0 })

/-- The arbiter's choice below CPo and DC: ring U, ring B, the channels (R68). -/
def issueRecordsAndData (s : State) : State :=
  if s.ringWaits .u then issueRead (.ring .u) (s.ringBase .u + 64 * s.ringU.head) s
  else if s.ringWaits .b then issueRead (.ring .b) (s.ringBase .b + 64 * s.ringB.head) s
  else if s.takesIndices then
    match s.nextChannel with
    | some (c, op) => issueChannel c op s
    | none => s
  else s

/-- The arbiter's choice with the bus free, by class (R68). -/
def issue (s : State) : State :=
  match (if s.writing then s.cpo.presented else none) with
  | some .completion => issueCompletion s
  | some (.event e) => issueEvent e s
  | none =>
    match s.setupWaits with
    | some a => issueSetup a s
    | none => issueRecordsAndData s

/-- BURST_ISSUE (R68): the bus is free, and a transfer that waits is chosen and issued. -/
def execBurstIssue (s : State) : Host.Outcome State Fault Refusal :=
  if s.flight.isNone then finish (issue s) else .next s

/-! ## The ends of ring reads (R161) -/

/-- RT at the end of a record read. In RESETTING the outcome is discarded (R173); no other state but ACTIVE, PAUSED and
QFAULT has a ring read in flight. The ring is judged empty as it stands at the end, as the table of R161 says, also where
a tail write emptied it meanwhile and a later one refilled it (log entry 36, DESIGN CHOICE). -/
def ringReadEnds (r : RingId) (a : ReadEnd) (s : State) : State :=
  if s.takesIndices then
    if (s.ring r).state = .fault ∨ (s.ring r).head = (s.ring r).tail then s
    else
      match a with
      | .ok data => s.setRing r { s.ring r with holder := some data }
      | .busError => faultRing r .readError s
      | .timeout => faultRing r .readTimeout s
  else s

/-! ## The ends of CPo's writes (R179, R183, R185) -/

def posterWriteEnds (w : PosterWrite) (a : WriteEnd) (s : State) : State :=
  match a with
  | .ok => posterWritten w s
  | .busError => posterFailed w .cwriteError s
  | .timeout => posterFailed w .cwriteTimeout s

/-! ## The ends of data bursts (R70, R72, R74, R134) -/

/-- The operation of a channel ends: the channel becomes FREE and is granted to the head of the queue (R70). -/
def freeChannel (c : Fin 4) (s : State) : State := grantAll (s.setChannel c .free)

/-- The channel goes on to its operation's next burst (R70). -/
def nextBurst (c : Fin 4) (op : Operation) (s : State) : State := s.setChannel c (.loaded op.advance)

/-- The bytes of a whole staged operation. -/
def stagedData (op : Operation) (s : State) : List Byte :=
  (List.range op.total).map fun k => stagedByte s.staging op.slots k

/-- A glyph load ends OK: the staged bytes move into the glyph store, and the slots are freed after that (R134). -/
def loadEnds (g : Fin 4) (op : Operation) (s : State) : State :=
  match s.glyph g with
  | .loading w h sep t _ =>
    answer t .ok (word op.total) 0 (freeOwned (.glyph g) (s.setGlyph g (.ready w h sep (stagedData op s))))
  | .empty => freeOwned (.glyph g) s
  | .ready _ _ _ _ => freeOwned (.glyph g) s

/-- A glyph load fails: the set becomes EMPTY; detail a is the glyph in whose data the burst began (R134). -/
def loadFails (g : Fin 4) (status : Status) (op : Operation) (s : State) : State :=
  match s.glyph g with
  | .loading w h _ t _ =>
    answer t status (word (op.done / glyphBytes w h)) 0 (freeOwned (.glyph g) (s.setGlyph g .empty))
  | .empty => freeOwned (.glyph g) s
  | .ready _ _ _ _ => freeOwned (.glyph g) s

/-- The fetched entry becomes READY and keeps its slots (R20). -/
def entryFetched (p : PanelId) (r : RingId) (n : Word) (s : State) : State :=
  mapEntry p r n (fun e => if e.state = .fetching then { e with state := .ready } else e) s

/-- The owner of a fetch is told of its end OK (R74). -/
def fetchDone (op : Operation) (s : State) : State :=
  match op.owner with
  | .entry p r n => entryFetched p r n s
  | .glyph g => loadEnds g op s

/-- An entry leaves with its operation, and the operation's slots are freed (R74). -/
def entryEnds (p : PanelId) (r : RingId) (n : Word) (status : Status) (detail : Entry → Word × Word) (s : State) :
    State :=
  match findEntry p r n s with
  | some e => leave p e status (detail e).1 (detail e).2 (freeOwned (.entry p r n) s)
  | none => freeOwned (.entry p r n) s

/-- The row in which an operation's burst in flight began (R21, R74). -/
def failedRow (op : Operation) : Word := word (op.done / op.rowBytes)

/-- The owner of an operation is told of its failure (R74). -/
def operationFails (op : Operation) (status : Status) (s : State) : State :=
  match op.owner with
  | .entry p r n => entryEnds p r n status (fun _ => (failedRow op, 0)) s
  | .glyph g => loadFails g status op s

/-- The owner of a write-back is told of its end OK: the CAPTURE leaves with its commit frame and cost (R21, R74). -/
def writeBackDone (op : Operation) (s : State) : State :=
  match op.owner with
  | .entry p r n => entryEnds p r n .ok (fun e => (e.commitFrame.getD 0, word e.cost)) s
  | .glyph g => freeOwned (.glyph g) s

/-- The end of a fetch burst on channel `c` (R70, R72, R74). -/
def fetchEnds (c : Fin 4) (op : Operation) (a : ReadEnd) (s : State) : State :=
  match a with
  | .ok data =>
    let s := stageBurst op data s
    if op.isLast then fetchDone op (freeChannel c s) else nextBurst c op s
  | .busError => operationFails op .fetchError (freeChannel c s)
  | .timeout => operationFails op .fetchTimeout (freeChannel c s)

/-- The end of a write-back burst on channel `c` (R70, R74). -/
def writeBackEnds (c : Fin 4) (op : Operation) (a : WriteEnd) (s : State) : State :=
  match a with
  | .ok => if op.isLast then writeBackDone op (freeChannel c s) else nextBurst c op s
  | .busError => operationFails op .writeError (freeChannel c s)
  | .timeout => operationFails op .writeTimeout (freeChannel c s)

/-- The end of an orphan burst (R76): a fetch that ends OK writes its bytes into the RECLAIM slots; every RECLAIM slot
becomes FREE; nobody is answered. -/
def orphanEnds (op : Operation) (a : ReadEnd) (s : State) : State :=
  match a with
  | .ok data => freeReclaimed (if op.write then s else stageBurst op data s)
  | .busError => freeReclaimed s
  | .timeout => freeReclaimed s

/-! ## The commands -/

/-- The bus is free at the end of a burst, of any outcome (R73). -/
def freeBus (s : State) : State := s.setFlight none

/-- Burst timeout us ticks have been made since the issue (R73, R148). -/
def Flight.expired (f : Flight) (s : State) : Bool := s.burstTimeoutUs ≤ f.elapsed

/-- An answer of this kind may end the burst: a timeout only once it is due, and OK with the burst's bytes (R73;
log entry 10). -/
def readMayEnd (a : ReadEnd) (f : Flight) (s : State) : Bool :=
  match a with
  | .ok data => data.length == if f.write then 0 else f.length
  | .busError => true
  | .timeout => f.expired s

def writeMayEnd (a : WriteEnd) (f : Flight) (s : State) : Bool :=
  match a with
  | .ok => true
  | .busError => true
  | .timeout => f.expired s

/-- RING_READ_END (R161). -/
def execRingReadEnd (a : ReadEnd) (s : State) : Host.Outcome State Fault Refusal :=
  match s.flight with
  | none => .next s
  | some f =>
    match f.requester with
    | .ring r => if readMayEnd a f s then finish (ringReadEnds r a (freeBus s)) else .next s
    | _ => .next s

/-- COMPLETION_WRITE_END (R179). -/
def execCompletionWriteEnd (a : WriteEnd) (s : State) : Host.Outcome State Fault Refusal :=
  match s.flight with
  | none => .next s
  | some f =>
    match f.requester with
    | .poster w => if writeMayEnd a f s then finish (posterWriteEnds w a (freeBus s)) else .next s
    | _ => .next s

/-- The data operation whose burst is in flight, with its channel. -/
def State.dataBurst (s : State) : Option (Flight × Fin 4 × Operation) :=
  match s.flight with
  | none => none
  | some f =>
    match f.requester with
    | .channel c =>
      match s.channel c with
      | .inFlight op => some (f, c, op)
      | .free => none
      | .loaded _ => none
    | _ => none

/-- FETCH_BURST_END (R74). -/
def execFetchBurstEnd (a : ReadEnd) (s : State) : Host.Outcome State Fault Refusal :=
  match s.dataBurst with
  | none => .next s
  | some (f, c, op) =>
    if !op.write && readMayEnd a f s then finish (fetchEnds c op a (freeBus s)) else .next s

/-- WRITE_BACK_BURST_END (R74). -/
def execWriteBackBurstEnd (a : WriteEnd) (s : State) : Host.Outcome State Fault Refusal :=
  match s.dataBurst with
  | none => .next s
  | some (f, c, op) =>
    if op.write && writeMayEnd a f s then finish (writeBackEnds c op a (freeBus s)) else .next s

/-- ORPHAN_BURST_END (R76). -/
def execOrphanBurstEnd (a : ReadEnd) (s : State) : Host.Outcome State Fault Refusal :=
  match s.flight with
  | none => .next s
  | some f =>
    match f.requester with
    | .orphan op => if readMayEnd a f s then finish (orphanEnds op a (freeBus s)) else .next s
    | _ => .next s

/-- A burst's end by timeout, at its requester. The setup read is timed by its own rule (R189). -/
def timeoutEnds (q : Requester) (s : State) : State :=
  match q with
  | .poster w => posterWriteEnds w .timeout (freeBus s)
  | .setup => s
  | .ring r => ringReadEnds r .timeout (freeBus s)
  | .channel c =>
    match s.channel c with
    | .inFlight op =>
      if op.write then writeBackEnds c op .timeout (freeBus s) else fetchEnds c op .timeout (freeBus s)
    | .free => s
    | .loaded _ => s
  | .orphan op => orphanEnds op .timeout (freeBus s)

/-- BURST_TIMEOUT (R73): the burst in flight ends with timeout. -/
def execBurstTimeout (s : State) : Host.Outcome State Fault Refusal :=
  match s.flight with
  | none => .next s
  | some f => if f.expired s then finish (timeoutEnds f.requester s) else .next s

/-- LATE_ANSWER (R73): an answer for a burst that has already ended is discarded. It writes nothing and ends nothing. -/
def execLateAnswer (s : State) : Host.Outcome State Fault Refusal := .next s

end Sys2Proof.Machine
end

