-- ==== Sys2Proof/Machine/EntryRecords.lean ====
section
/-! DEFINITION. The picture commands (chapter 2): UPDATE, FILL, CAPTURE and CANCEL. -/

namespace Sys2Proof.Machine

/-! ## Acceptance (R23 to R26) -/

/-- The first binding, by tally and slot, whose reserved rectangle on the panel a rect intersects (R25, R137). -/
def conflictingBinding (p : PanelId) (q : Rect) (s : State) : Option (TallyId × Fin 2) :=
  (s.placed.find? fun x => x.2.2.panel == p && q.intersects x.2.2.rect).map fun x => (x.1, x.2.1)

/-- The entry that an accepted record becomes (R17, R26). -/
def newEntry (kind : EntryKind) (t : Ticket) (b : EntryBody) (depth : Nat) (slots : List (Fin 24)) : Entry where
  ticket := t
  kind := kind
  rect := b.rect
  state := match kind with
    | .update => .queued
    | .fill => .ready
    | .capture => .ready
  slots := match kind with
    | .fill => none
    | .update => some slots
    | .capture => some slots
  address := match kind with
    | .fill => none
    | .update => some b.address
    | .capture => some b.address
  stride := match kind with
    | .fill => none
    | .update => some b.stride
    | .capture => some b.stride
  shade := match kind with
    | .fill => some b.shade
    | .update => none
    | .capture => none
  cost := b.rect.cost depth
  commitFrame := none

/-- The entry is appended at the tail, and the fetch of an UPDATE asked of TU (R26). -/
def append (p : PanelId) (e : Entry) (s : State) : State :=
  let s := s.setList p (s.list p ++ [e])
  match e.kind with
  | .update => carry (entryOperation p e false) s
  | .fill => s
  | .capture => s

/-- Steps 3 to 5 of R23, for a record whose panel and fields have passed. -/
def laterRefusal (kind : EntryKind) (p : PanelId) (b : EntryBody) (c : PanelConfig) (s : State) :
    Option (Status × Nat × Nat) :=
  let cost := b.rect.cost c.depth
  if kind ≠ .fill ∧ Config.maxStagedCost < cost then some (.tooLarge, cost, 0)
  else
    match (if kind = .capture then none else conflictingBinding p b.rect s) with
    | some (t, k) => some (.conflict, t.val, k.val)
    | none =>
      if Config.listCapacity ≤ (s.list p).length then
        some (.listFull, Config.listCapacity, (s.list p).countP fun e => e.state == .committed)
      else none

/-- The acceptance checks in order (R23), and the effect of acceptance (R26). -/
def entryOwner (kind : EntryKind) : RecordOwner := fun t record s =>
  let b := entryBody record
  match idOf 4 b.panel with
  | none => refuse .refusedParam 1 0 s
  | some p =>
    if !(s.port p).state.accepting then refuse .refusedState 0 0 s
    else
      match (s.port p).config with
      | none => refuse .refusedState 0 0 s
      | some c =>
        match b.failing kind c with
        | some n => refuse .refusedParam n 0 s
        | none =>
          match laterRefusal kind p b c s with
          | some (status, x, y) => refuse status x y s
          | none =>
            if kind = .fill then .accepted (append p (newEntry kind t b c.depth []) s)
            else
              let need := slotNeed (b.rect.cost c.depth)
              match allocate need (.entry p t.ring t.take) s with
              | none => .withdrawn need
              | some (slots, s') => .accepted (append p (newEntry kind t b c.depth slots) s')

/-- UPDATE (R23). -/
def execUpdate (s : State) : Host.Outcome State Fault Refusal := dispatch .update (entryOwner .update) s

/-- FILL (R23). -/
def execFill (s : State) : Host.Outcome State Fault Refusal := dispatch .fill (entryOwner .fill) s

/-- CAPTURE (R23). -/
def execCapture (s : State) : Host.Outcome State Fault Refusal := dispatch .capture (entryOwner .capture) s

/-! ## CANCEL (R31 to R34) -/

/-- An entry in COMMITTED or WRITING is too late to cancel (R32). -/
def EntryState.tooLate : EntryState → Bool
  | .committed => true
  | .writing => true
  | .queued => false
  | .fetching => false
  | .ready => false

/-- One entry under a CANCEL with target `tag`: cancelled when it matches and is not too late (R33). A channel that it
frees is granted before the next match is withdrawn, also to a match still QUEUED (log entry 37, DESIGN CHOICE). -/
def cancelEntry (tag : Word) (p : PanelId) (s : State) (e : Entry) : State :=
  if e.ticket.tag = tag ∧ !e.state.tooLate then leave p e .cancelled 0 0 (withdraw (e.owner p) s) else s

/-- The entries of one panel's list, from head to tail (R34). -/
def cancelPanel (tag : Word) (s : State) (p : PanelId) : State := (s.list p).foldl (cancelEntry tag p) s

/-- One glyph set: a load under way whose tag matches is withdrawn, and its set becomes EMPTY (R135). Grants fall between
the matches as in `cancelEntry` (log entry 37, DESIGN CHOICE). -/
def cancelLoad (tag : Word) (s : State) (g : Fin 4) : State :=
  match s.glyph g with
  | .loading _ _ _ t _ =>
    if t.tag = tag then answer t .cancelled 0 0 ((withdraw (.glyph g) s).setGlyph g .empty) else s
  | .empty => s
  | .ready _ _ _ _ => s

def loadMatches (tag : Word) : GlyphSet → Bool
  | .loading _ _ _ t _ => t.tag == tag
  | .empty => false
  | .ready _ _ _ _ => false

/-- The panels in a CANCEL's scope. -/
def scopePanels (scope : Nat) : List PanelId :=
  if scope = scopeAll then List.finRange 4 else (idOf 4 scope).toList

/-- The matching entries of the scoped panels, and the matching loads for scope ALL, cancelled (R34). -/
def cancelWork (tag : Word) (scope : Nat) (s : State) : State :=
  let s := (scopePanels scope).foldl (cancelPanel tag) s
  if scope = scopeAll then (List.finRange 4).foldl (cancelLoad tag) s else s

/-- The matching entries in the scoped panels' lists whose state is too late, or is not (R32). -/
def countEntries (tag : Word) (scope : Nat) (tooLate : Bool) (s : State) : Nat :=
  ((scopePanels scope).map fun p =>
    (s.list p).countP fun e => e.ticket.tag == tag && e.state.tooLate == tooLate).sum

/-- The matching loads, which only scope ALL reaches (R32). -/
def countLoads (tag : Word) (scope : Nat) (s : State) : Nat :=
  if scope = scopeAll then (List.finRange 4).countP fun g => loadMatches tag (s.glyph g) else 0

/-- CANCEL's check, matches and counts (R31 to R34). Detail b of REFUSED_PARAM is 0 (log entry 16, DESIGN CHOICE). -/
def cancelOwner : RecordOwner := fun _ record s =>
  let tag := word (field32 record 16)
  let scope := byteAt record 20
  if scope ≠ scopeAll ∧ 3 < scope then refuse .refusedParam 2 0 s
  else
    let cancelled := countEntries tag scope false s + countLoads tag scope s
    let tooLate := countEntries tag scope true s
    if cancelled + tooLate = 0 then refuse .notFound 0 0 s
    else .answered .ok (word cancelled) (word tooLate) (cancelWork tag scope s)

/-- CANCEL (R34). -/
def execCancel (s : State) : Host.Outcome State Fault Refusal := dispatch .cancel cancelOwner s

end Sys2Proof.Machine
end

