-- ==== Sys2Proof/Machine/Frames.lean ====
section
/-! DEFINITION. The events of the panel ports (chapters 3 and 5): frame boundaries, row transfers and frame ends, and the
panel fault lines. -/

namespace Sys2Proof.Machine

/-! ## Frames (R42, R57, R97, R98) -/

/-- A boundary of its own follows a frame end in RUNNING and FROZEN. The lead-in boundary falls within PANEL_START, and
the balancing frame's within the end-of-drain check (R82, R86). -/
def boundaryDue (o : Port) : Bool := o.frame.isNone && (o.state == .running || o.state == .frozen)

/-- FRAME_BOUNDARY (R42). -/
def execFrameBoundary (p : PanelId) (s : State) : Host.Outcome State Fault Refusal :=
  if boundaryDue (s.port p) then finish (boundary p s) else .next s

/-- The frame in progress, whose next row time has elapsed, and the configuration (R97, R98; log entry 18). -/
def rowDue (o : Port) : Option (PanelConfig × Frame) :=
  match o.config, o.frame with
  | some c, some f => if f.rowsDone < f.rows ∧ nextRowEnd c f ≤ f.elapsed then some (c, f) else none
  | _, _ => none

/-- ROW_TRANSFER (R98). -/
def execRowTransfer (p : PanelId) (s : State) : Host.Outcome State Fault Refusal :=
  match rowDue (s.port p) with
  | some (c, f) => .next (s.setPort p (sendRow c f (s.region p) (s.port p)))
  | none => .next s

/-- The panel reaches RUNNING: every waiting START completes OK, in order (R83). -/
def reachRunning (p : PanelId) (s : State) : State :=
  let o := s.port p
  answerAll o.waitingStarts .ok 0 0 (s.setPort p { o with state := .running, waitingStarts := [] })

/-- The state changes that a frame end causes at the port (R83, R86, R97). -/
def afterFrame (p : PanelId) (s : State) : State :=
  match (s.port p).state with
  | .starting => reachRunning p s
  | .draining => drainCheck p s
  | .off => s
  | .running => s
  | .frozen => s
  | .faulted => s

/-- The frame of panel `p` ends (R57, R97). -/
def endFrame (p : PanelId) (f : Frame) (s : State) : State :=
  afterFrame p ((showEntries p f.first f.last (s.port p).frameNumber s).setPort p { s.port p with frame := none })

/-- FRAME_END (R57): every row of the frame's window has been transferred. -/
def execFrameEnd (p : PanelId) (s : State) : Host.Outcome State Fault Refusal :=
  match (s.port p).frame with
  | some f => if f.rows ≤ f.rowsDone then finish (endFrame p f s) else .next s
  | none => .next s

/-! ## Fault lines (R90) -/

/-- The level of the fault line. -/
def setFaultLine (p : PanelId) (asserted : Bool) (s : State) : State :=
  s.setPort p { s.port p with faultLine := asserted }

/-- The line becomes asserted, and a panel that runs frames faults (R90). -/
def assertFault (p : PanelId) (s : State) : State :=
  let s := setFaultLine p true s
  if (s.port p).state.runsFrames then takeFault p s else s

/-- PFLT_ASSERT (R90). -/
def execPfltAssert (p : PanelId) (s : State) : Host.Outcome State Fault Refusal :=
  if (s.port p).faultLine then .next s else finish (assertFault p s)

/-- PFLT_RELEASE (R90): the line becomes released, and changes no panel's state. -/
def execPfltRelease (p : PanelId) (s : State) : Host.Outcome State Fault Refusal := .next (setFaultLine p false s)

end Sys2Proof.Machine
end

