-- ==== Sys2Proof/Machine/GlyphRecords.lean ====
section
/-! DEFINITION. The glyph and binding commands (chapter 7): GLYPH_LOAD, TALLY_BIND, TALLY_UNBIND. -/

namespace Sys2Proof.Machine

/-! ## GLYPH_LOAD (R132, R133) -/

/-- The bindings that name the set. -/
def references (g : Fin 4) (s : State) : Nat := s.placed.countP fun x => x.2.2.glyphSet == g

/-- The first of fields 2 to 5 that R132 refuses. -/
def LoadBody.failing (b : LoadBody) : Option Nat :=
  firstFailing
    [(2, b.width < 4 || 32 < b.width),
     (3, b.height < 5 || 48 < b.height),
     (4, b.separatorWidth < 1 || b.width < b.separatorWidth),
     (5, 2 ^ 64 < b.address + glyphSetBytes b.width b.height)]

/-- The glyph fetch of a load: one run of the set's bytes (R71, R131). -/
def loadOperation (g : Fin 4) (b : LoadBody) (slots : List (Fin 24)) : Operation where
  owner := .glyph g
  write := false
  address := b.address
  stride := glyphSetBytes b.width b.height
  rowBytes := glyphSetBytes b.width b.height
  rows := 1
  slots := slots
  done := 0

/-- The effect of an accepted load (R133). -/
def beginLoad (g : Fin 4) (t : Ticket) (b : LoadBody) (slots : List (Fin 24)) (s : State) : State :=
  carry (loadOperation g b slots) (s.setGlyph g (.loading b.width b.height b.separatorWidth t slots))

def glyphLoadOwner : RecordOwner := fun t record s =>
  let b := loadBody record
  match idOf 4 b.set with
  | none => refuse .refusedParam 1 0 s
  | some g =>
    if (s.glyph g).stateCode = 1 then refuse .refusedState 1 0 s
    else if references g s ≠ 0 then refuse .inUse (references g s) 0 s
    else
      match b.failing with
      | some n => refuse .refusedParam n 0 s
      | none =>
        let need := slotNeed (glyphSetBytes b.width b.height)
        match allocate need (.glyph g) s with
        | none => .withdrawn need
        | some (slots, s') => .accepted (beginLoad g t b slots s')

/-- GLYPH_LOAD (R132). -/
def execGlyphLoad (s : State) : Host.Outcome State Fault Refusal := dispatch .glyphLoad glyphLoadOwner s

/-! ## TALLY_BIND (R136 to R138) -/

/-- The used entries of the separator list, for a tally of `n` digits (R136). -/
def BindBody.used (b : BindBody) (n : Nat) : List Nat := b.separators.take (n - 1)

/-- The lowest used separator entry that is no code of 11.7.1 (R137, step 10). -/
def badSeparator (l : List Nat) : Option Nat := l.findIdx? fun c => (separatorOf c).isNone

/-- The rectangle of a binding (R136). -/
def bindRect (b : BindBody) (n separatorWidth height : Nat) : Rect where
  x := b.x
  y := b.y
  w := n * b.pitch + ((b.used n).countP (· != 0)) * separatorWidth
  h := height

/-- The binding that an accepted TALLY_BIND makes (R136, R138). -/
def newBinding (p : PanelId) (g : Fin 4) (b : BindBody) (n : Nat) (q : Rect) : Binding where
  panel := p
  rect := q
  glyphSet := g
  pitch := b.pitch
  foreground := b.foreground
  background := b.background
  blankLeading := b.blankLeading
  separators := (b.used n).map fun c => (separatorOf c).getD .none
  expiryGroup := if b.expiryPresent then idOf 4 b.expiryGroup else none
  dirty := true

/-- Steps 7 to 9 and 11 of R137 and the separators of step 10, in order: the field number, and the detail b. -/
def bindFieldRefusal (b : BindBody) (width n : Nat) (c : PanelConfig) : Option (Nat × Nat) :=
  if b.pitch < width || 40 < b.pitch then some (7, 0)
  else if c.highestShade < b.foreground then some (8, 0)
  else if c.highestShade < b.background then some (9, 0)
  else if n - 1 < b.blankLeading then some (10, 0)
  else
    match badSeparator (b.used n) with
    | some i => some (11, i)
    | none => if b.expiryPresent && 3 < b.expiryGroup then some (12, 0) else none

/-- The first UPDATE or FILL entry of the panel's list, from the head, that a rect intersects (R29, R137). -/
def conflictingEntry (p : PanelId) (q : Rect) (s : State) : Option Entry :=
  (s.list p).find? fun e => e.kind != .capture && q.intersects e.rect

/-- Steps 12 to 15 of R137: the computed rect against the panel, the other bindings and the pending list. -/
def bindPlaced (p : PanelId) (c : PanelConfig) (t : TallyId) (k : Fin 2) (v : Binding) (s : State) : Ruling :=
  if c.width < v.rect.x + v.rect.w then refuse .refusedParam 4 0 s
  else if !v.rect.validFor c then refuse .refusedParam 5 0 s
  else
    match conflictingBinding p v.rect s with
    | some (t', k') => refuse .conflict t'.val k'.val s
    | none =>
      match conflictingEntry p v.rect s with
      | some e => .answered .conflict 16 e.ticket.tag s
      | none => .answered .ok (word v.rect.w) (word v.rect.h) (s.setBinding t k (some v))

def tallyBindOwner : RecordOwner := fun _ record s =>
  let b := bindBody record
  match idOf 16 b.tally with
  | none => refuse .refusedParam 1 0 s
  | some t =>
    match idOf 2 b.slot with
    | none => refuse .refusedParam 2 0 s
    | some k =>
      match (s.tally t).defn with
      | none => refuse .refusedState 1 0 s
      | some d =>
        match s.binding t k with
        | some old => refuse .inUse old.panel.val 0 s
        | none =>
          match idOf 4 b.panel with
          | none => refuse .refusedParam 3 0 s
          | some p =>
            match (s.port p).config with
            | none => refuse .refusedParam 3 0 s
            | some c =>
              match idOf 4 b.glyphSet with
              | none => refuse .refusedParam 6 0 s
              | some g =>
                match s.glyph g with
                | .empty => refuse .refusedState 6 0 s
                | .loading _ _ _ _ _ => refuse .refusedState 6 1 s
                | .ready w h sep _ =>
                  match bindFieldRefusal b w d.digits c with
                  | some (n, i) => refuse .refusedParam n i s
                  | none =>
                    bindPlaced p c t k (newBinding p g b d.digits (bindRect b d.digits sep h)) s

/-- TALLY_BIND (R137). -/
def execTallyBind (s : State) : Host.Outcome State Fault Refusal := dispatch .tallyBind tallyBindOwner s

/-! ## TALLY_UNBIND (R140) -/

/-- TALLY_UNBIND's checks and effect (R140). Detail b of REFUSED_PARAM is 0 (log entry 16, DESIGN CHOICE). -/
def tallyUnbindOwner : RecordOwner := fun _ record s =>
  match idOf 16 (byteAt record 16) with
  | none => refuse .refusedParam 1 0 s
  | some t =>
    match idOf 2 (byteAt record 17) with
    | none => refuse .refusedParam 2 0 s
    | some k =>
      match s.binding t k with
      | none => refuse .notFound 0 0 s
      | some b => .answered .ok (word b.panel.val) 0 (s.setBinding t k none)

/-- TALLY_UNBIND (R140). -/
def execTallyUnbind (s : State) : Host.Outcome State Fault Refusal := dispatch .tallyUnbind tallyUnbindOwner s

end Sys2Proof.Machine
end

