-- ==== Sys2Proof/Machine/PanelRecords.lean ====
section
/-! DEFINITION. The panel commands (chapters 1 and 5): PANEL_CONFIG, PANEL_START, PANEL_STOP, PANEL_HOLD, PANEL_WINDOW. -/

namespace Sys2Proof.Machine

/-! ## PANEL_CONFIG (R12 to R14) -/

/-- The bindings that name the panel. -/
def bindingsOn (p : PanelId) (s : State) : Nat := s.placed.countP fun x => x.2.2.panel == p

/-- The zones that name the panel. -/
def zonesOn (p : PanelId) (s : State) : Nat := s.zonesSet.countP fun z => z.panel == p

/-- The effect of an accepted PANEL_CONFIG (R14): the record is written whole, a pending window discarded, and the
region cleared. -/
def configure (p : PanelId) (c : PanelConfig) (s : State) : State :=
  (s.setPort p { s.port p with config := some c, pendingWindow := none }).setRegion p []

def panelConfigOwner : RecordOwner := fun _ record s =>
  match idOf 4 (byteAt record 16) with
  | none => refuse .refusedParam 1 0 s
  | some p =>
    let b := configBody record
    if (s.port p).state ≠ .off then refuse .refusedState 0 0 s
    else
      match b.failing with
      | some n => refuse .refusedParam n 0 s
      | none =>
        if bindingsOn p s + zonesOn p s ≠ 0 then refuse .inUse (bindingsOn p s) (zonesOn p s) s
        else .answered .ok 0 0 (configure p b.config s)

/-- PANEL_CONFIG (R12). -/
def execPanelConfig (s : State) : Host.Outcome State Fault Refusal := dispatch .panelConfig panelConfigOwner s

/-! ## PANEL_START (R81, R82) -/

/-- The START joins the waiting starts. -/
def joinStarts (p : PanelId) (t : Ticket) (s : State) : State :=
  s.setPort p { s.port p with waitingStarts := (s.port p).waitingStarts ++ [t] }

/-- PANEL_START by the panel's state (R81). Detail b of REFUSED_PARAM is 0 (log entry 16, DESIGN CHOICE). -/
def panelStartOwner : RecordOwner := fun t record s =>
  match idOf 4 (byteAt record 16) with
  | none => refuse .refusedParam 1 0 s
  | some p =>
    match (s.port p).state with
    | .off =>
      if (s.port p).config.isSome then .accepted (enterStarting p (joinStarts p t s)) else refuse .refusedState 0 0 s
    | .starting => .accepted (joinStarts p t s)
    | .running => .answered .ok 0 0 s
    | .frozen => .answered .ok 0 0 s
    | .draining => refuse .refusedState 0 0 s
    | .faulted =>
      if (s.port p).faultLine then refuse .refusedState 0 0 s
      else .accepted (enterStarting p (joinStarts p t s))

/-- PANEL_START (R81). -/
def execPanelStart (s : State) : Host.Outcome State Fault Refusal := dispatch .panelStart panelStartOwner s

/-! ## PANEL_STOP (R84, R85) -/

/-- The STOP joins the waiting stops. -/
def joinStops (p : PanelId) (t : Ticket) (s : State) : State :=
  s.setPort p { s.port p with waitingStops := (s.port p).waitingStops ++ [t] }

/-- PANEL_STOP by the panel's state (R84). Detail b of REFUSED_PARAM is 0 (log entry 16, DESIGN CHOICE). -/
def panelStopOwner : RecordOwner := fun t record s =>
  match idOf 4 (byteAt record 16) with
  | none => refuse .refusedParam 1 0 s
  | some p =>
    match (s.port p).state with
    | .off => .answered .ok 0 0 s
    | .starting => .accepted (enterDraining p (joinStops p t s))
    | .running => .accepted (enterDraining p (joinStops p t s))
    | .frozen => .accepted (enterDraining p (joinStops p t s))
    | .draining => .accepted (joinStops p t s)
    | .faulted =>
      if (s.port p).faultLine then refuse .refusedState 0 0 s
      else .accepted (drainFromFault p (joinStops p t s))

/-- PANEL_STOP (R84). -/
def execPanelStop (s : State) : Host.Outcome State Fault Refusal := dispatch .panelStop panelStopOwner s

/-! ## PANEL_HOLD (R88) -/

def setPanelState (p : PanelId) (v : PanelState) (s : State) : State := s.setPort p { s.port p with state := v }

/-- PANEL_HOLD's checks and table (R88). Detail b of REFUSED_PARAM is 0 (log entry 16, DESIGN CHOICE). -/
def panelHoldOwner : RecordOwner := fun _ record s =>
  match idOf 4 (byteAt record 16) with
  | none => refuse .refusedParam 1 0 s
  | some p =>
    let hold := byteAt record 17
    if 1 < hold then refuse .refusedParam 2 0 s
    else
      match (s.port p).state with
      | .running => .answered .ok 0 0 (if hold = 1 then setPanelState p .frozen s else s)
      | .frozen => .answered .ok 0 0 (if hold = 1 then s else setPanelState p .running s)
      | .off => refuse .refusedState 0 0 s
      | .starting => refuse .refusedState 0 0 s
      | .draining => refuse .refusedState 0 0 s
      | .faulted => refuse .refusedState 0 0 s

/-- PANEL_HOLD (R88): hold 0 RELEASE, 1 SET. -/
def execPanelHold (s : State) : Host.Outcome State Fault Refusal := dispatch .panelHold panelHoldOwner s

/-! ## PANEL_WINDOW (R89) -/

/-- A window that has passed its checks: recorded while the panel runs frames, otherwise written at once (R89). -/
def changeWindow (w : Nat × Nat) (o : Port) : Port :=
  if o.state.runsFrames then { o with pendingWindow := some w }
  else { o with config := o.config.map (·.setWindow w) }

/-- PANEL_WINDOW's checks in order (R89). Detail b of REFUSED_PARAM and both details of
REFUSED_STATE are 0 (log entry 16, DESIGN CHOICE). -/
def panelWindowOwner : RecordOwner := fun _ record s =>
  match idOf 4 (byteAt record 16) with
  | none => refuse .refusedParam 1 0 s
  | some p =>
    match (s.port p).config with
    | none => refuse .refusedState 0 0 s
    | some c =>
      let first := field16 record 18
      let last := field16 record 20
      if c.height ≤ first then refuse .refusedParam 2 0 s
      else if last < first || c.height ≤ last then refuse .refusedParam 3 0 s
      else .answered .ok 0 0 (s.setPort p (changeWindow (first, last) (s.port p)))

/-- PANEL_WINDOW (R89). -/
def execPanelWindow (s : State) : Host.Outcome State Fault Refusal := dispatch .panelWindow panelWindowOwner s

end Sys2Proof.Machine
end

