-- ==== Sys2Proof/Machine/Reset.lean ====
section
/-! DEFINITION. The two resets (chapter 11): the pin reset with the clearing of INIT, and the entry to RESETTING and the exit
from it, with the part each block has in them. -/

namespace Sys2Proof.Machine

/-! ## Pin reset (R187) -/

/-- The port as a pin reset leaves it: pin reset values (R95), the fault line at its level, and the last row in the
panel's drivers (log entry 27). -/
def Port.pinReset (o : Port) : Port := { Port.reset with faultLine := o.faultLine, lastRow := o.lastRow }

/-- The state after a pin reset: every block at its pin reset values. What no reset changes stays: the levels of the
pins, the slots' bytes (R78), the regions until INIT clears them (R2), and the queue of commands. -/
def pinReset (s : State) : State :=
  { State.reset with
    pending := s.pending
    cins := Vector.ofFn fun n : LineId => { CountInput.reset with raw := (s.cin n).raw }
    staging := s.staging
    ports := Vector.ofFn fun p : PanelId => (s.port p).pinReset
    regions := s.regions }

/-- RESET_N_ASSERT (R187). -/
def execResetNAssert (s : State) : Host.Outcome State Fault Refusal := .next (pinReset s)

/-- RESET_N_RELEASE (R187): the device is in INIT and DC begins to clear the frame store. -/
def execResetNRelease (s : State) : Host.Outcome State Fault Refusal :=
  if s.dev.resetAsserted then .next (s.setDev { s.dev with resetAsserted := false, state := .init }) else .next s

/-- INIT_CLEAR_END (R187): every byte of the frame store is 0, and the device enters HALTED. -/
def execInitClearEnd (s : State) : Host.Outcome State Fault Refusal :=
  if s.dev.state = .init ∧ !s.dev.resetAsserted then
    .next ((s.setRegions (Vector.replicate 4 [])).setDev { s.dev with state := .halted })
  else .next s

/-! ## Entry to RESETTING (R192) -/

/-- A ring at entry to RESETTING (R159, R173): head, tail and take number are kept. -/
def Ring.softReset (g : Ring) : Ring := { g with state := .running, holder := none, outstanding := [], syncs := [] }

/-- RT's part (R173). -/
def softResetRings (s : State) : State :=
  ((s.setRingU s.ringU.softReset).setRingB s.ringB.softReset).setPassOver 0

/-- CPo's part (R175, R185): post, release and phase are kept. -/
def Poster.softReset (c : Poster) : Poster :=
  { Poster.reset with post := c.post, release := c.release, phase := c.phase }

/-- A count input line at entry to RESETTING (R149; log entry 21). -/
def CountInput.softReset (c : CountInput) : CountInput :=
  { CountInput.reset with raw := c.raw, accepted := some c.raw }

/-- DC's part (R186, R192); a setup read still presented is withdrawn (R78). -/
def Device.softReset (d : Device) : Device :=
  { d with
    state := .resetting, cause := .none, causeField := 0, setupRead := none, enable := false
    softResetRequested := false }

/-- The parts of TY, GB, BU and TB (R105, R130, R136, R149, R154, R157). -/
def softResetUnits (s : State) : State :=
  (((((s.setTallies (Vector.replicate 16 Tally.reset)).setGlyphs (Vector.replicate 4 .empty)).setBindings
    (Vector.replicate 32 none)).setZones (Vector.replicate 16 none)).setGroups
    (Vector.replicate 4 BlinkGroup.reset)).setCins (Vector.ofFn fun n : LineId => (s.cin n).softReset)

/-- CU's part, with TU's and SP's (R40, R78): every list is emptied without completions and every operation abandoned. -/
def softResetLists (s : State) : State := (abandonAll s).setLists (Vector.replicate 4 [])

/-- Everything but the ports' part, which comes after their lists have been flushed (R94). -/
def softResetBlocks (s : State) : State :=
  softResetUnits (softResetLists (softResetRings
    ((s.setDev s.dev.softReset).setCpo s.cpo.softReset)))

/-- The device enters RESETTING (R192). -/
def enterResetting (s : State) : State := (List.finRange 4).foldl softResetPort (softResetBlocks s)

/-! ## The exit from RESETTING (R193) -/

/-- A panel is OFF or FAULTED. -/
def PanelState.atRest (p : PanelState) : Bool := p == .off || p == .faulted

/-- The condition of R193. -/
def resettingDone (s : State) : Bool :=
  s.dev.state == .resetting && (List.finRange 4).all (fun p => (s.port p).state.atRest)
    && (List.finRange 24).all (fun i => s.slot i != .reclaim) && s.flight.isNone

/-- RESETTING_EXIT (R193). -/
def execResettingExit (s : State) : Host.Outcome State Fault Refusal :=
  if resettingDone s then .next (s.setDev (s.dev.setState .halted)) else .next s

end Sys2Proof.Machine
end

