-- ==== Sys2Proof/Machine/Setup.lean ====
section
/-! DEFINITION. Setup (chapter 11): the entry to SETUP, the end of the setup read by its outcome, and the effect of a valid
setup block. -/

namespace Sys2Proof.Machine

/-! ## Entry to SETUP (R189) -/

/-- SETUP ends in HALTED with a cause (R189). -/
def setupFails (c : Cause) (field : Nat) (enable : Bool) (s : State) : State :=
  s.setDev { s.dev with state := .halted, cause := c, causeField := field, enable := enable, softResetRequested := false }

/-- ENABLE is written 1 in HALTED (R188): the cause is NONE, and DC presents the read of the block at the setup address
as it stands now, or a misaligned address ends SETUP at once, with ENABLE as it was written (R188, R189). The cause
field beside NONE is a free value (log entry 31). -/
def enterSetup (s : State) : State :=
  if s.dev.setupAddress.toNat % 64 = 0 then
    s.setDev { s.dev with
      state := .setup, cause := .none, causeField := s.dev.openCauseField .none, enable := true
      setupRead := some s.dev.setupAddress }
  else setupFails .setupInvalid 0 true s

/-! ## A valid setup block takes effect (R147, R191) -/

/-- The timebase at a successful setup load (R147). -/
def Timebase.load (t : Timebase) (refMhz : Nat) : Timebase :=
  if t.running ∧ t.refMhz = some refMhz then t
  else { running := true, refMhz := some refMhz, us := 0, ms := 0 }

/-- The load restarts a running timebase (R147). -/
def Timebase.restarts (t : Timebase) (refMhz : Nat) : Bool := t.running && t.refMhz != some refMhz

/-- The epoch of every group is 0 (R147). -/
def clearEpochs (s : State) : State :=
  s.setGroups (Vector.ofFn fun g : Fin 4 => { s.group g with epoch := 0 })

/-- Every line's accepted level becomes its raw level, with no edge (R149). -/
def settleLines (s : State) : State := s.setCins (Vector.ofFn fun n : LineId => (s.cin n).settle)

/-- TB's part of a setup load (R147). -/
def loadTimebase (refMhz : Nat) (s : State) : State :=
  let t := s.tb
  let s := if t.restarts refMhz then clearEpochs s else s
  let s := if t.running ∧ t.refMhz = some refMhz then s else settleLines s
  s.setTb (t.load refMhz)

/-- The setup values take effect, in the one event that ends SETUP (R191, with the columns of R159 and R175). ENABLE as
last written decides between ACTIVE and PAUSED, so 0 and then 1 again in one SETUP gives ACTIVE (log entry 38, DESIGN
CHOICE). -/
def applySetup (v : SetupValues) (s : State) : State :=
  let s := s.setDev { s.dev with setup := some v, state := if s.dev.enable then .active else .paused }
  let s := ((s.setRingU Ring.reset).setRingB Ring.reset).setPassOver 0
  loadTimebase v.refMhz (s.setCpo { Poster.reset with phase := true })

/-! ## The end of the setup read (R189) -/

/-- The outcome of the setup read at DC (R189). -/
def setupReadEnds (a : ReadEnd) (s : State) : State :=
  if s.dev.softResetRequested then enterResetting s
  else
    match a with
    | .ok block =>
      match setupFailing block with
      | some n => setupFails .setupInvalid n false s
      | none => applySetup (setupValuesOf block) s
    | .busError => setupFails .setupRead 0 false s
    | .timeout => setupFails .setupRead 0 false s

/-- The device is in SETUP and the setup read is in flight. -/
def State.setupInFlight (s : State) : Bool :=
  s.dev.state == .setup &&
    match s.flight with
    | some f => f.requester == .setup
    | none => false

/-- An answer carries the 64 bytes of the block when it is OK (log entry 10). -/
def blockComplete : ReadEnd → Bool
  | .ok data => data.length == 64
  | .busError => true
  | .timeout => true

/-- SETUP_READ_END (R189). -/
def execSetupReadEnd (a : ReadEnd) (s : State) : Host.Outcome State Fault Refusal :=
  if s.setupInFlight && blockComplete a then finish (setupReadEnds a (freeBus s)) else .next s

/-- SETUP_READ_TIMEOUT (R189): 65 536 REFCLK periods have passed (log entry 17). -/
def execSetupReadTimeout (s : State) : Host.Outcome State Fault Refusal :=
  if s.setupInFlight then finish (setupReadEnds .timeout (freeBus s)) else .next s

end Sys2Proof.Machine
end

