-- ==== Sys2Proof/Machine/Registers.lean ====
section
/-! DEFINITION. Register writes (chapter 11, with the tail writes of chapter 9 and the releases of chapter 10). -/

namespace Sys2Proof.Machine

/-- Register writes are ignored while RESET_n is asserted and in INIT (R187, R188). -/
def State.hearsWrites (s : State) : Bool := !s.dev.resetAsserted && s.dev.state != .init

/-! ## CONTROL (R188) -/

/-- The INT_ENABLE bit is written in every state but INIT (R188). -/
def writeIntEnable (bit : Bool) (s : State) : State := s.setDev { s.dev with intEnable := bit }

/-- SOFT_RESET written 1, by the device state (R188). -/
def writeSoftReset (s : State) : State :=
  match s.dev.state with
  | .setup => s.setDev { s.dev with softResetRequested := true }
  | .halted => enterResetting s
  | .active => enterResetting s
  | .paused => enterResetting s
  | .qfault => enterResetting s
  | .resetting => s
  | .init => s

/-- The ENABLE bit of a write without SOFT_RESET, by the device state (R188). -/
def writeEnable (bit : Bool) (s : State) : State :=
  match s.dev.state with
  | .halted => if bit then enterSetup s else s
  | .setup => s.setDev { s.dev with enable := bit }
  | .active => if bit then s else s.setDev { s.dev with state := .paused, enable := false }
  | .paused => if bit then s.setDev { s.dev with state := .active, enable := true } else s
  | .qfault => s
  | .resetting => s
  | .init => s

/-- A write to CONTROL: bit 0 ENABLE, bit 1 SOFT_RESET, bit 2 INT_ENABLE (11.3). -/
def writeControl (v : Word) (s : State) : State :=
  if s.hearsWrites then
    let s := writeIntEnable (v.getLsbD 2) s
    if v.getLsbD 1 then writeSoftReset s else writeEnable (v.getLsbD 0) s
  else s

/-- ENABLE (R188): a CONTROL write without SOFT_RESET. -/
def execEnable (v : Word) (s : State) : Host.Outcome State Fault Refusal := finish (writeControl v s)

/-- SOFT_RESET (R188, R192): a CONTROL write with SOFT_RESET. -/
def execSoftReset (v : Word) (s : State) : Host.Outcome State Fault Refusal := finish (writeControl v s)

/-- INT_ENABLE (R182, R188): a CONTROL write without SOFT_RESET (log entry 9). -/
def execIntEnable (v : Word) (s : State) : Host.Outcome State Fault Refusal := finish (writeControl v s)

/-! ## U_TAIL and B_TAIL (R160) -/

/-- A ring state once the ring is empty: a stall ends and its need is dropped (R160). -/
def RingState.emptied : RingState → RingState
  | .running => .running
  | .stalled _ => .running
  | .fault => .fault

/-- The ring after a tail value below its size: an empty ring discards its holder (R160). -/
def Ring.withTail (g : Ring) (tail : Nat) : Ring :=
  if g.head = tail then { g with tail := tail, holder := none, state := g.state.emptied } else { g with tail := tail }

/-- A tail write at RT (R160). -/
def writeTail (r : RingId) (v : Nat) (s : State) : State :=
  if s.takesIndices ∧ (s.ring r).state ≠ .fault then
    if s.ringSize r ≤ v then faultRing r .badTail s else s.setRing r ((s.ring r).withTail v)
  else s

/-- TAIL_WRITE (R160). -/
def execTailWrite (r : RingId) (v : Word) (s : State) : Host.Outcome State Fault Refusal := finish (writeTail r v.toNat s)

/-! ## C_RELEASE (R181) -/

/-- The value of a release write names entries that have been written and not released (R181). -/
def releaseAccepted (v : Nat) (s : State) : Bool :=
  v < s.completionSize &&
    indexGap v s.cpo.release s.completionSize ≤ indexGap s.cpo.post s.cpo.release s.completionSize

/-- A release write at CPo (R181). -/
def writeRelease (v : Nat) (s : State) : State :=
  if s.takesIndices then
    if releaseAccepted v s then s.setCpo { s.cpo with release := v }
    else if s.writing then enterQfault .badRelease s
    else s
  else s

/-- C_RELEASE (R181). -/
def execCRelease (v : Word) (s : State) : Host.Outcome State Fault Refusal := finish (writeRelease v.toNat s)

/-! ## The other registers (R188) -/

/-- A write to a register without behaviour of its own (R188). -/
def writePlain (r : PlainRegister) (v : Word) (s : State) : State :=
  match r with
  | .setupLo => s.setDev { s.dev with setupAddress := s.dev.setupAddress.extractLsb' 32 32 ++ v }
  | .setupHi => s.setDev { s.dev with setupAddress := v ++ s.dev.setupAddress.extractLsb' 0 32 }
  | .status => s
  | .cPost => s

/-- REGISTER_WRITE (R188). -/
def execRegisterWrite (r : PlainRegister) (v : Word) (s : State) : Host.Outcome State Fault Refusal :=
  if s.hearsWrites then .next (writePlain r v s) else .next s

end Sys2Proof.Machine
end

