-- ==== Sys2Proof/Machine/TallyRecords.lean ====
section
/-! DEFINITION. The tally commands (chapter 6): TALLY_DEFINE, TALLY_CONTROL, TALLY_READ. -/

namespace Sys2Proof.Machine

/-! ## TALLY_DEFINE (R118, R119) -/

/-- The moduli in use. -/
def DefineBody.used (b : DefineBody) : List Nat := b.moduli.take b.n

/-- The bad digit of a value field given in packed-digit form, if any. -/
def DefineBody.badValue (b : DefineBody) (w : Nat) : Option Nat := badDigit b.used (unpackDigits b.n w)

/-- The first of a list of checks that fails, with its detail b. -/
def firstFound : List (Nat × Option Nat) → Option (Nat × Nat)
  | [] => none
  | (n, found) :: rest =>
    match found with
    | some i => some (n, i)
    | none => firstFound rest

/-- A check with detail b 0. -/
def plainCheck (failing : Bool) : Option Nat := if failing then some 0 else none

/-- The first of fields 2 to 10 that R118 refuses for tally `t`, with its detail b. -/
def DefineBody.failing (b : DefineBody) (t : TallyId) : Option (Nat × Nat) :=
  firstFound
    [(2, plainCheck (b.n < 1 || 8 < b.n)),
     (3, b.used.findIdx? fun m => m < 2 || 10 < m),
     (4, plainCheck (directionOf b.direction).isNone),
     (5, plainCheck (sourceOf t b.source).isNone),
     (6, plainCheck (endActionOf b.endAction).isNone),
     (7, if b.endAction = 2 then b.badValue b.reload else none),
     (8, b.badValue b.initial),
     (9, if b.watchPresent then b.badValue b.watch else none),
     (10, plainCheck (3 < b.enables))]

/-- The definition that an accepted TALLY_DEFINE makes (R119). -/
def DefineBody.defn (b : DefineBody) (t : TallyId) : TallyDef :=
  let source := (sourceOf t b.source).getD .host
  let action := (endActionOf b.endAction).getD .stop
  { run := .stopped
    moduli := b.used
    value := unpackDigits b.n b.initial
    direction := (directionOf b.direction).getD .up
    source := source
    endAction := action
    reload := if action = .reload then some (unpackDigits b.n b.reload) else none
    watch := if b.watchPresent then some (unpackDigits b.n b.watch) else none
    endEnabled := b.enables % 2 == 1
    watchEnabled := b.enables / 2 % 2 == 1
    remainder := if source.period.isSome then some 0 else none }

/-- The bindings present of a tally (R105). -/
def bindingsOf (t : TallyId) (s : State) : Nat := (List.finRange 2).countP fun k => (s.binding t k).isSome

def tallyRunning (s : State) (t : TallyId) : Bool := (s.tally t).stateCode == 2

def tallyDefineOwner : RecordOwner := fun _ record s =>
  let b := defineBody record
  match idOf 16 b.tally with
  | none => refuse .refusedParam 1 0 s
  | some t =>
    if tallyRunning s t then refuse .refusedState 2 0 s
    else if bindingsOf t s ≠ 0 then refuse .inUse (bindingsOf t s) 0 s
    else
      match b.failing t with
      | some (n, i) => refuse .refusedParam n i s
      | none =>
        .answered .ok 0 (word (packDigits (b.defn t).value))
          (s.setTally t { defn := some (b.defn t), endCount := 0, watchCount := 0 })

/-- TALLY_DEFINE (R118). -/
def execTallyDefine (s : State) : Host.Outcome State Fault Refusal := dispatch .tallyDefine tallyDefineOwner s

/-! ## TALLY_CONTROL (R120 to R123) -/

def setRun (t : TallyId) (v : TallyRun) (s : State) : State :=
  s.setTally t { s.tally t with defn := (s.tally t).defn.map fun d => { d with run := v } }

/-- OK with detail b the value after the operation (R120). -/
def okWithValue (t : TallyId) (a : Nat) (s : State) : Ruling := .answered .ok (word a) (word (s.tally t).packed) s

/-- The record as SET leaves it (R122). -/
def TallyDef.loaded (d : TallyDef) (v : List Nat) : TallyDef :=
  { d with
    value := v
    remainder := d.remainder.map fun _ => 0
    run := if d.run = .expired then .stopped else d.run }

/-- SET (R122). -/
def setOperation (t : TallyId) (d : TallyDef) (w : Nat) (s : State) : Ruling :=
  let v := unpackDigits d.digits w
  match badDigit d.moduli v with
  | some i => refuse .refusedParam 3 i s
  | none => okWithValue t 0 (markDirty t (s.setTally t { s.tally t with defn := some (d.loaded v) }))

/-- ADD (R123). Detail b of the refusal, for field 4, is 0 (log entry 16, DESIGN CHOICE). -/
def addOperation (t : TallyId) (count : Nat) (s : State) : Ruling :=
  if count = 0 then refuse .refusedParam 4 0 s
  else
    let r := addSteps t count s
    okWithValue t r.2 r.1

/-- The table of R120, for a defined tally. -/
def controlDefined (t : TallyId) (d : TallyDef) (op : TallyOperation) (b : ControlBody) (s : State) : Ruling :=
  match op, d.run with
  | .start, .stopped => okWithValue t 0 (setRun t .running s)
  | .start, .running => okWithValue t 0 s
  | .start, .expired => refuse .refusedState 3 0 s
  | .stop, .stopped => okWithValue t 0 s
  | .stop, .running => okWithValue t 0 (setRun t .stopped s)
  | .stop, .expired => okWithValue t 0 s
  | .set, .stopped => setOperation t d b.value s
  | .set, .running => setOperation t d b.value s
  | .set, .expired => setOperation t d b.value s
  | .add, .stopped => addOperation t b.count s
  | .add, .running => addOperation t b.count s
  | .add, .expired => refuse .refusedState 3 0 s

/-- The owner's checks in order (R120). Detail b of the refusals for fields 1 and 2 is 0 (log entry 16, DESIGN CHOICE).
-/
def tallyControlOwner : RecordOwner := fun _ record s =>
  let b := controlBody record
  match idOf 16 b.tally with
  | none => refuse .refusedParam 1 0 s
  | some t =>
    match tallyOperationOf b.operation with
    | none => refuse .refusedParam 2 0 s
    | some op =>
      match (s.tally t).defn with
      | none => refuse .refusedState 0 0 s
      | some d => controlDefined t d op b s

/-- TALLY_CONTROL (R120). -/
def execTallyControl (s : State) : Host.Outcome State Fault Refusal := dispatch .tallyControl tallyControlOwner s

/-! ## TALLY_READ (R124) -/

/-- Detail b of TALLY_READ: state code, digit count and ms remainder (11.7.2). -/
def Tally.readDetail (t : Tally) : Nat :=
  match t.defn with
  | none => 0
  | some d => t.stateCode * 2 ^ 24 + d.digits * 2 ^ 16 + d.remainder.getD 0

/-- TALLY_READ's check and report (R124). Detail b of the refusal is 0 (log entry 16, DESIGN CHOICE). -/
def tallyReadOwner : RecordOwner := fun _ record s =>
  match idOf 16 (byteAt record 16) with
  | none => refuse .refusedParam 1 0 s
  | some t => .answered .ok (word (s.tally t).packed) (word (s.tally t).readDetail) s

/-- TALLY_READ (R124). -/
def execTallyRead (s : State) : Host.Outcome State Fault Refusal := dispatch .tallyRead tallyReadOwner s

end Sys2Proof.Machine
end

