-- ==== Sys2Proof/Machine/Dispatch.lean ====
section
/-! DEFINITION. The dispatch: one arm for each command of spec/opcode_table.json, in the table's order. -/

namespace Sys2Proof.Machine

def exec (i : Instr) (s : State) : Host.Outcome State Fault Refusal :=
  match i with
  | .resetNAssert => Sys2Proof.Machine.execResetNAssert s
  | .resetNRelease => Sys2Proof.Machine.execResetNRelease s
  | .initClearEnd => Sys2Proof.Machine.execInitClearEnd s
  | .pfltAssert panel => Sys2Proof.Machine.execPfltAssert panel s
  | .pfltRelease panel => Sys2Proof.Machine.execPfltRelease panel s
  | .cinLevelChange line level => Sys2Proof.Machine.execCinLevelChange line level s
  | .usTick => Sys2Proof.Machine.execUsTick s
  | .msTick => Sys2Proof.Machine.execMsTick s
  | .timebasePeriodStep tally => Sys2Proof.Machine.execTimebasePeriodStep tally s
  | .filterHoldExpiry line => Sys2Proof.Machine.execFilterHoldExpiry line s
  | .burstTimeout => Sys2Proof.Machine.execBurstTimeout s
  | .setupReadTimeout => Sys2Proof.Machine.execSetupReadTimeout s
  | .lateAnswer => Sys2Proof.Machine.execLateAnswer s
  | .enable value => Sys2Proof.Machine.execEnable value s
  | .softReset value => Sys2Proof.Machine.execSoftReset value s
  | .intEnable value => Sys2Proof.Machine.execIntEnable value s
  | .tailWrite ring value => Sys2Proof.Machine.execTailWrite ring value s
  | .cRelease value => Sys2Proof.Machine.execCRelease value s
  | .registerWrite reg value => Sys2Proof.Machine.execRegisterWrite reg value s
  | .burstIssue => Sys2Proof.Machine.execBurstIssue s
  | .setupReadEnd answer => Sys2Proof.Machine.execSetupReadEnd answer s
  | .ringReadEnd answer => Sys2Proof.Machine.execRingReadEnd answer s
  | .completionWriteEnd answer => Sys2Proof.Machine.execCompletionWriteEnd answer s
  | .fetchBurstEnd answer => Sys2Proof.Machine.execFetchBurstEnd answer s
  | .writeBackBurstEnd answer => Sys2Proof.Machine.execWriteBackBurstEnd answer s
  | .orphanBurstEnd answer => Sys2Proof.Machine.execOrphanBurstEnd answer s
  | .frameBoundary panel => Sys2Proof.Machine.execFrameBoundary panel s
  | .rowTransfer panel => Sys2Proof.Machine.execRowTransfer panel s
  | .frameEnd panel => Sys2Proof.Machine.execFrameEnd panel s
  | .resettingExit => Sys2Proof.Machine.execResettingExit s
  | .nop => Sys2Proof.Machine.execNop s
  | .unknownKind => Sys2Proof.Machine.execUnknownKind s
  | .sync => Sys2Proof.Machine.execSync s
  | .panelConfig => Sys2Proof.Machine.execPanelConfig s
  | .panelStart => Sys2Proof.Machine.execPanelStart s
  | .panelStop => Sys2Proof.Machine.execPanelStop s
  | .panelHold => Sys2Proof.Machine.execPanelHold s
  | .panelWindow => Sys2Proof.Machine.execPanelWindow s
  | .update => Sys2Proof.Machine.execUpdate s
  | .fill => Sys2Proof.Machine.execFill s
  | .capture => Sys2Proof.Machine.execCapture s
  | .cancel => Sys2Proof.Machine.execCancel s
  | .glyphLoad => Sys2Proof.Machine.execGlyphLoad s
  | .tallyBind => Sys2Proof.Machine.execTallyBind s
  | .tallyUnbind => Sys2Proof.Machine.execTallyUnbind s
  | .tallyDefine => Sys2Proof.Machine.execTallyDefine s
  | .tallyControl => Sys2Proof.Machine.execTallyControl s
  | .tallyRead => Sys2Proof.Machine.execTallyRead s
  | .blinkGroup => Sys2Proof.Machine.execBlinkGroup s
  | .blinkZone => Sys2Proof.Machine.execBlinkZone s
  | .countInput => Sys2Proof.Machine.execCountInput s

end Sys2Proof.Machine
end

