-- ==== Sys2Proof/Machine/Step.lean ====
section
/-! DEFINITION. One step of the part: the command at the front of the queue takes place (log entry 5). -/

namespace Sys2Proof.Machine

/-- One step: the front command is taken off the queue and takes place on the state with the queue's rest. On an empty
queue the part idles: between commands nothing happens, since ticks and due events are commands too (log entry 5). -/
def step (s : State) : Host.Outcome State Fault Refusal :=
  match s.pending with
  | [] => .next s
  | c :: rest => exec c (s.setPending rest)

/-- The command that a word spells is put at the front of the queue; the table gives no row any bits, so no word spells
one (log entry 22). -/
def State.withFetchWord (s : State) (nbits w : Nat) : State :=
  match decodeTableWord nbits w with
  | none => s
  | some c => s.setPending (c :: s.pending)

end Sys2Proof.Machine
end

