-- ==== Sys2Proof/Safety.lean ====
section
/-! DEFINITION. What claims about the part are stated in: what a dispatch and CPo's choice do to the state, spelled out
field by field, and the laws of the device that a safe run keeps. -/

namespace Sys2Proof.Machine

/-! ## CPo's choice -/

/-- `t` is `s` but for what CPo's choice of its next write sets (R178): the write presented, the event pointer and the
kind last written. -/
def SameButChoice (s t : State) : Prop :=
  t = { s with
    cpo := { s.cpo with
      presented := t.cpo.presented
      eventPointer := t.cpo.eventPointer
      lastWritten := t.cpo.lastWritten } }

/-- CPo has withdrawn what is stale and chosen what it can choose: the choice made again changes nothing (R178). -/
def State.choiceMade (s : State) : Prop := chooseWrite (withdrawStaleEvent s) = s

/-- `t` with CPo's choice as it stood in `s`; a setup load begins it anew (R175). -/
def beforeChoice (s t : State) : State :=
  { t with
    cpo := { t.cpo with
      presented := if s.dev.state = .setup then none else s.cpo.presented
      eventPointer := if s.dev.state = .setup then 0 else s.cpo.eventPointer
      lastWritten := if s.dev.state = .setup then .completion else s.cpo.lastWritten } }

/-! ## Dispatches (R164, R166, R176) -/

/-- The arbiter's choice is ring `r`, whose holder has `record`, a record of kind `k` whose reserved header area is
zero: the record's own command takes place now (R163 to R165). -/
structure Held (k : Kind) (s : State) (r : RingId) (record : List Byte) : Prop where
  chosen : chosenRing s = some r
  held : (s.ring r).holder = some record
  kind : recordKind record = some k
  header : headerClear record = true

/-- What the completion of the record about to be taken carries of it (R165, R170). -/
def nextTicket (s : State) (r : RingId) (record : List Byte) : Ticket where
  tag := BitVec.ofNat 32 (field32 record 4)
  kind := BitVec.ofNat 16 (field16 record 0)
  ring := r
  take := (s.ring r).take + 1

/-- The pass-over count after a choice of ring `r` (R166). -/
def countAfter (s : State) (r : RingId) : Nat :=
  match r with
  | .b => 0
  | .u => if ringAble s .b then s.passOver + 1 else s.passOver

/-- The state in which the chosen ring's record has been taken and nothing else has happened (R164): the count, the
ring's head, holder, take number and outstanding set, and one reservation more. -/
def afterTake (s : State) (r : RingId) : State :=
  { s.setRing r { s.ring r with
      head := ((s.ring r).head + 1) % s.ringSize r
      holder := none
      take := (s.ring r).take + 1
      outstanding := (s.ring r).outstanding ++ [(s.ring r).take + 1] } with
    passOver := countAfter s r
    cpo := { s.cpo with reserved := s.cpo.reserved + 1 } }

/-- A completion joins the tail of the request queue (R176). -/
def withRequest (s : State) (t : Ticket) (status : Status) (a b : Word) : State :=
  { s with cpo := { s.cpo with
      queue := s.cpo.queue ++ [{ ticket := t, status := status, detailA := a, detailB := b }] } }

/-- The state in which the record has been taken and its completion requested, and nothing else has happened. -/
def afterAnswer (s : State) (r : RingId) (record : List Byte) (status : Status) (a b : Nat) : State :=
  withRequest (afterTake s r) (nextTicket s r record) status (BitVec.ofNat 32 a) (BitVec.ofNat 32 b)

/-- The state in which the record has been withdrawn for a need of slots (R164, R167): the count is advanced and the
ring is STALLED. -/
def afterStall (s : State) (r : RingId) (need : Nat) : State :=
  { s.setRing r { s.ring r with state := .stalled need } with passOver := countAfter s r }

/-- The command that dispatches a record of the kind. -/
def Kind.command : Kind → Instr
  | .nop => .nop
  | .sync => .sync
  | .panelConfig => .panelConfig
  | .panelStart => .panelStart
  | .panelStop => .panelStop
  | .panelHold => .panelHold
  | .panelWindow => .panelWindow
  | .update => .update
  | .fill => .fill
  | .capture => .capture
  | .cancel => .cancel
  | .glyphLoad => .glyphLoad
  | .tallyBind => .tallyBind
  | .tallyUnbind => .tallyUnbind
  | .tallyDefine => .tallyDefine
  | .tallyControl => .tallyControl
  | .tallyRead => .tallyRead
  | .blinkGroup => .blinkGroup
  | .blinkZone => .blinkZone
  | .countInput => .countInput

/-! ## Rings and the bus -/

/-- A ring in RING_FAULT, its holder emptied and its event handed to CPo (R162). -/
def withRingFault (s : State) (r : RingId) (c : RingCause) : State :=
  let u := s.setRing r { s.ring r with state := .fault, holder := none }
  match r with
  | .u => { u with cpo := { u.cpo with ringFaultU := some c } }
  | .b => { u with cpo := { u.cpo with ringFaultB := some c } }

/-- The bus free, and nothing else different. -/
def withBusFree (s : State) : State := { s with flight := none }

/-- The oldest waiting SYNC of a ring has no lower take number outstanding in front of it (R171). -/
def syncDue (s : State) (r : RingId) : Bool :=
  match (s.ring r).syncs with
  | [] => false
  | y :: _ => (s.ring r).outstanding.head? == some y.ticket.take

/-! ## Withdrawals (R33, R37, R69, R76, R135) -/

/-- A channel is IN FLIGHT exactly when the bus carries a burst for it (R67, R69). -/
def State.busAgrees (s : State) : Prop :=
  (∀ c op, s.channel c = .inFlight op → ∃ f, s.flight = some f ∧ f.requester = .channel c) ∧
    ∀ f c, s.flight = some f → f.requester = .channel c → ∃ op, s.channel c = .inFlight op

/-- The operations under way are apart (R69): the bus agrees with the channels, and no two operations, on channels or
waiting, have one owner. -/
structure State.transfersApart (s : State) : Prop where
  bus : s.busAgrees
  channels : ∀ i j a b, (s.channel i).op = some a → (s.channel j).op = some b → a.owner = b.owner → i = j
  waiting : ∀ op ∈ s.waitQueue, ∀ i a, (s.channel i).op = some a → a.owner ≠ op.owner
  queue : (s.waitQueue.map (·.owner)).Nodup

/-- From `s` to `t` the owners `gone` have gone away, and nobody else (R33, R37, R76): no operation of theirs waits or
stands on a channel, and the others stay where they are or are granted a channel; their slots are RECLAIM where their
burst is in flight, which runs on as an orphan, and FREE otherwise; the other slots stay. -/
structure Withdrawn (gone : Owner → Prop) (s t : State) : Prop where
  queue : ∀ op ∈ t.waitQueue, op ∈ s.waitQueue ∧ ¬gone op.owner
  channels : ∀ c op, (t.channel c).op = some op → ¬gone op.owner
  stays : ∀ c op, (s.channel c).op = some op → ¬gone op.owner → t.channel c = s.channel c
  waits : ∀ op ∈ s.waitQueue, ¬gone op.owner → op ∈ t.waitQueue ∨ ∃ c, t.channel c = .loaded op
  slots : ∀ i o, s.slot i = .owned o → gone o → t.slot i = if flyingOwner s = some o then .reclaim else .free
  others : ∀ i, (∀ o, s.slot i = .owned o → ¬gone o) → t.slot i = s.slot i
  orphan : ∀ f c op, s.flight = some f → f.requester = .channel c → s.channel c = .inFlight op → gone op.owner →
    t.flight = some { f with requester := .orphan op }
  flight : (∀ o, flyingOwner s = some o → ¬gone o) → t.flight = s.flight

/-- A list's entries in order, but for grants of channels, which make QUEUED entries FETCHING (R69). -/
def Granted (before after : List Entry) : Prop :=
  List.Forall₂ (fun e e' => e' = e ∨ e.state = .queued ∧ e' = { e with state := .fetching }) before after

/-! ## Lists (R21, R37, R38) -/

/-- The owner is an entry of panel `p`'s list that a stop or fault flush withdraws: one not yet committed (R37). -/
def flushedOwner (p : PanelId) (s : State) (o : Owner) : Prop :=
  ∃ e ∈ s.list p, (e.state = .queued ∨ e.state = .fetching ∨ e.state = .ready) ∧
    o = .entry p e.ticket.ring e.ticket.take

/-- The completion a stop or fault flush requests for an entry (R21, R37, R38); a WRITING capture stays. -/
def flushCompletion (status : Status) (frame : Word) (e : Entry) : Option Completion :=
  match e.state with
  | .writing => none
  | .committed => some { ticket := e.ticket, status := .hidden, detailA := e.commitFrame.getD 0, detailB := frame }
  | .queued => some { ticket := e.ticket, status := status, detailA := frame, detailB := 0 }
  | .fetching => some { ticket := e.ticket, status := status, detailA := frame, detailB := 0 }
  | .ready => some { ticket := e.ticket, status := status, detailA := frame, detailB := 0 }

/-- No two entries of a list come from one record. -/
def recordsDistinct (l : List Entry) : Prop := (l.map fun e => (e.ticket.ring, e.ticket.take)).Nodup

/-- One completion for each of a list of records. -/
def completionsOf (ts : List Ticket) (status : Status) (a b : Word) : List Completion :=
  ts.map fun t => { ticket := t, status := status, detailA := a, detailB := b }

/-- The configuration with the pending window written into it, if there is one (R45, R87, R90). -/
def windowApplied (o : Port) : Option PanelConfig :=
  match o.pendingWindow with
  | none => o.config
  | some w => o.config.map fun c => { c with windowFirst := w.1, windowLast := w.2 }

/-! ## Device Control (R188, R189, R190) -/

/-- DC's record after a CONTROL write without SOFT_RESET: the ENABLE columns of R188 with the address check of R189. -/
def enableOutcome (d : Device) (bit : Bool) : Device :=
  match d.state, bit with
  | .halted, true =>
    if d.setupAddress.toNat % 64 = 0 then
      { d with
        state := .setup, cause := .none, causeField := d.openCauseField .none, enable := true
        setupRead := some d.setupAddress }
    else { d with
      cause := .setupInvalid, causeField := 0, enable := true, softResetRequested := false }
  | .setup, _ => { d with enable := bit }
  | .active, false => { d with state := .paused, enable := false }
  | .paused, true => { d with state := .active, enable := true }
  | _, _ => d

/-- A size R190 allows: a power of two from 16 to 4096. -/
def ringSizeLegal (n : Nat) : Prop := ∃ k, 4 ≤ k ∧ k ≤ 12 ∧ n = 2 ^ k

/-- The check of one field of a setup block (R190), on the bytes of 11.7.3. -/
def setupFieldPasses (b : List Byte) : Nat → Prop
  | 1 => field64 b 0 % 64 = 0 ∧ field64 b 0 + 64 * field16 b 24 ≤ 2 ^ 64
  | 2 => ringSizeLegal (field16 b 24)
  | 3 => field64 b 8 % 64 = 0 ∧ field64 b 8 + 64 * field16 b 26 ≤ 2 ^ 64
  | 4 => ringSizeLegal (field16 b 26)
  | 5 => field64 b 16 % 16 = 0 ∧ field64 b 16 + 16 * field16 b 28 ≤ 2 ^ 64
  | 6 => ringSizeLegal (field16 b 28)
  | 7 => 4 ≤ byteAt b 30 ∧ byteAt b 30 ≤ 64
  | 8 => 1 ≤ field16 b 32 ∧ field16 b 32 ≤ 1023
  | 9 => 1 ≤ byteAt b 31 ∧ byteAt b 31 ≤ 15
  | 10 => ∀ i, 34 ≤ i → i < 64 → byteAt b i = 0
  | _ => True

/-! ## The laws of the device -/

/-- Every memory is in canonical form. -/
def State.memoriesCanonical (s : State) : Prop := s.staging.wf = true ∧ ∀ p, (s.region p).wf = true

/-- No pending list holds more than 32 entries (R19). -/
def State.listsFit (s : State) : Prop := ∀ p, (s.list p).length ≤ 32

/-- The pass-over count is at most the starvation limit (R166). -/
def State.passOverBounded (s : State) : Prop := s.passOver ≤ s.starvationLimit

/-- A list of digits is a value of the moduli (R106). -/
def isValue : List Nat → List Nat → Prop
  | [], [] => True
  | m :: ms, v :: vs => v < m ∧ isValue ms vs
  | _, _ => False

/-- A definition as R105 and R118 allow it: 1 to 8 digits, moduli from 2 to 10, values of those moduli, a reload value
when the end action is RELOAD, and an ms remainder below the period when the source is one of the timebase's. -/
def TallyDef.lawful (d : TallyDef) : Prop :=
  1 ≤ d.moduli.length ∧ d.moduli.length ≤ 8 ∧ (∀ m ∈ d.moduli, 2 ≤ m ∧ m ≤ 10) ∧ isValue d.moduli d.value ∧
    (∀ v, d.reload = some v → isValue d.moduli v) ∧ (∀ v, d.watch = some v → isValue d.moduli v) ∧
    (d.endAction = .reload → d.reload.isSome) ∧ (d.source.period = none → d.remainder = none) ∧
    ∀ n, d.source.period = some n → ∃ r, d.remainder = some r ∧ r < n

/-- Every defined tally is lawful, a tally fed by another has a higher number than it, and no occurrence count exceeds
255 (R105, R126). -/
def State.talliesLawful (s : State) : Prop :=
  ∀ t, (∀ d, (s.tally t).defn = some d → d.lawful ∧ ∀ k, d.source = .tally k → k < t) ∧
    (s.tally t).endCount ≤ 255 ∧ (s.tally t).watchCount ≤ 255

/-- A configuration within the ranges of R13. -/
def PanelConfig.lawful (c : PanelConfig) : Prop :=
  8 ≤ c.width ∧ c.width ≤ 512 ∧ c.width % 8 = 0 ∧ 8 ≤ c.height ∧ c.height ≤ 256 ∧
    (c.depth = 1 ∨ c.depth = 2 ∨ c.depth = 4) ∧ (c.lanes = 1 ∨ c.lanes = 2 ∨ c.lanes = 4) ∧
    4 ≤ c.rowTime ∧ c.rowTime ≤ 1000 ∧ 1 ≤ c.blankRows ∧ c.blankRows ≤ 16 ∧
    c.windowFirst ≤ c.windowLast ∧ c.windowLast < c.height ∧ (c.driveMode = .rows ↔ c.driveRows.isSome) ∧
    (∀ k, c.driveRows = some k → 1 ≤ k ∧ k ≤ 64) ∧ c.spreadA ≤ 15 ∧ c.spreadB ≤ 15

/-- A port as chapters 1 and 5 allow it: a lawful configuration, a pending window within it, a configuration in every
state but OFF, frames only where frames run, and balance 0 in OFF and in drive mode NONE (R10, R13, R89, R97, R104). -/
structure Port.lawful (o : Port) : Prop where
  config : ∀ c, o.config = some c → c.lawful
  window : ∀ c w, o.config = some c → o.pendingWindow = some w → w.1 ≤ w.2 ∧ w.2 < c.height
  configured : o.state ≠ .off → o.config.isSome
  frames : o.frame.isSome → o.state.runsFrames = true
  balanceOff : o.state = .off → o.balance = false
  balanceNone : ∀ c, o.config = some c → c.driveMode = .none → o.balance = false

/-- Every port is lawful. -/
def State.portsLawful (s : State) : Prop := ∀ p, (s.port p).lawful

/-- The cause field is a field number of a setup block, or 0 (R186, R190). -/
def State.causeFieldFits (s : State) : Prop := s.dev.causeField ≤ 10

/-- The timebase runs with a REF_MHZ in use, or is stopped with both counts 0 (R146). -/
def State.timebaseLawful (s : State) : Prop :=
  (s.tb.running = true ↔ s.tb.refMhz.isSome) ∧ (s.tb.running = false → s.tb.us = 0 ∧ s.tb.ms = 0)

/-- The completion ring's indices are below its size, and the reservations fit the free places (R175, R177). -/
def State.completionsFit (s : State) : Prop :=
  s.cpo.post < s.completionSize ∧ s.cpo.release < s.completionSize ∧ s.cpo.reserved ≤ s.freePlaces

/-! ## Transfers asked of TU and slots given by SP (R63, R69) -/

/-- The slots of `l` are the `need` lowest-numbered FREE slots, in rising order (R63). -/
def LowestFree (s : State) (need : Nat) (l : List (Fin 24)) : Prop :=
  l.length = need ∧ l.Pairwise (· < ·) ∧ (∀ i ∈ l, s.slot i = .free) ∧
    ∀ i ∈ l, ∀ j, s.slot j = .free → j ∉ l → i < j

/-- TU has taken an operation from `s` to `t` (R69): it waits at the queue's tail while no channel is FREE, and an
operation alone is granted the lowest-numbered FREE channel at once. -/
def Carried (op : Operation) (s t : State) : Prop :=
  ((∀ c, s.channel c ≠ .free) → t.waitQueue = s.waitQueue ++ [op] ∧ t.channels = s.channels) ∧
    (s.waitQueue = [] → ∀ c, s.channel c = .free → (∀ c', c' < c → s.channel c' ≠ .free) →
      t.waitQueue = [] ∧ t.channel c = .loaded op ∧ ∀ c', c' ≠ c → t.channel c' = s.channel c')

/-! ## The walk (R49) -/

/-- Entry `i` of a list was READY before the walk and is not after it: the walk has committed it. -/
def committedNow (before after : List Entry) (i : Nat) : Bool :=
  match before[i]?, after[i]? with
  | some e, some e' => e.state == .ready && e'.state != .ready
  | _, _ => false

/-- The bytes committed when the walk reaches entry `i`. -/
def bytesBefore (before after : List Entry) (i : Nat) : Nat :=
  ((List.range i).map fun j => if committedNow before after j then ((before[j]?).map (·.cost)).getD 0 else 0).sum

/-- Entry `j` is left uncommitted, and so in the blocking set. -/
def EntryState.blocks : EntryState → Bool
  | .queued => true
  | .fetching => true
  | .ready => true
  | .committed => false
  | .writing => false

/-- The entries that the walk has committed when it reaches entry `n`, in list order. -/
def commitsBefore (before after : List Entry) (n : Nat) : List Entry :=
  (List.range n).filterMap fun i => if committedNow before after i then before[i]? else none

/-! ## Pixels (R4, R52 to R54, R142) -/

/-- The `depth` bits that stand for pixel (i, j) of a rect of width `w` in bytes staged in `slots` (R4, R6). -/
def stagedPixel (m : Memory) (slots : List (Fin 24)) (w depth i j : Nat) : Nat :=
  (stagedByte m slots (j * ((w * depth + 7) / 8) + i * depth / 8)).toNat / 2 ^ (8 - i * depth % 8 - depth) % 2 ^ depth

/-- The shade that pixel (x, y), of shade `v`, has after the commit of an entry (R52 to R54). -/
def shadeAfter (m : Memory) (depth : Nat) (e : Entry) (x y v : Nat) : Nat :=
  if e.rect.covers x y = true then
    match e.kind with
    | .update => stagedPixel m (e.slots.getD []) e.rect.w depth (x - e.rect.x) (y - e.rect.y)
    | .fill => e.shade.getD 0
    | .capture => v
  else v

/-- The shade that pixel (x, y), of shade `v`, has after the commits of a list of entries, one after another. -/
def shadeAfterAll (m : Memory) (depth : Nat) (l : List Entry) (x y v : Nat) : Nat :=
  l.foldl (fun v e => shadeAfter m depth e x y v) v

/-- The write-back that a committed CAPTURE of panel `p` asks of TU (R54, R71). -/
def writeBackOf (p : PanelId) (depth : Nat) (e : Entry) : Operation where
  owner := .entry p e.ticket.ring e.ticket.take
  write := true
  address := e.address.getD 0
  stride := e.stride.getD 0
  rowBytes := (e.rect.w * depth + 7) / 8
  rows := e.rect.h
  slots := e.slots.getD []
  done := 0

/-- An entry as R24 and R26 let it be: inside 512 columns and with at least one row, a shade in a byte, and for an
UPDATE or CAPTURE a cost of packed rows that its slots hold (R7). -/
structure Entry.drawable (e : Entry) (depth : Nat) : Prop where
  columns : e.rect.x + e.rect.w ≤ 512
  rows : 1 ≤ e.rect.h
  shade : e.kind = .fill → e.shade.getD 0 < 256
  cost : e.kind ≠ .fill → e.cost = (e.rect.w * depth + 7) / 8 * e.rect.h
  slots : e.kind ≠ .fill → ∃ l, e.slots = some l ∧ l.Nodup ∧ e.cost ≤ 2048 * l.length

/-- No slot stands in the lists of two entries (R62). -/
def slotsApart (l : List Entry) : Prop :=
  ∀ (i j : Nat) (e f : Entry) (a b : List (Fin 24)), i ≠ j → l[i]? = some e → l[j]? = some f → e.slots = some a →
    f.slots = some b → ∀ k ∈ a, k ∉ b

/-- The separators of a binding of `n` digits that stand left of digit `i` and right of digit n - 1 (R136). -/
def separatorsLeftOf (b : Binding) (n i : Nat) : Nat :=
  (List.range (n - 1)).countP fun j => decide (i ≤ j) && b.separators.getD j .none != .none

/-- The column, from the left of a binding's rect, at which the cell of digit `i` of `n` begins (R142). -/
def digitColumn (b : Binding) (n sep i : Nat) : Nat := (n - 1 - i) * b.pitch + separatorsLeftOf b n i * sep

/-- The shade of column `col`, row `row` of a cell that shows glyph `g` of a set of `w` by `h` pixels: a set bit of the
glyph gives the foreground, and every other pixel of the cell the background (R131, R142). -/
def glyphShade (b : Binding) (w h : Nat) (data : List Byte) (g col row : Nat) : Nat :=
  if col < w ∧ (data.getD (g * ((w + 7) / 8 * h) + row * ((w + 7) / 8) + col / 8) 0).getLsbD (7 - col % 8) = true then
    b.foreground
  else b.background

/-! ## Frames (R97, R100, R101, R103, R154) -/

/-- A blink group is off at the present ms count (R154). -/
def groupDark (s : State) (g : Fin 4) : Prop :=
  (s.group g).duty * (10 * (s.group g).period) ≤
    100 * ((s.tb.ms - (s.group g).epoch).toNat % (10 * (s.group g).period))

/-- The port at the boundary of a frame of configuration `c` (its window already applied): the frame is numbered, the
phase line stands at the start phase that the balance gives, and the balance is toggled but in drive mode NONE. -/
def portAtBoundary (o : Port) (c : PanelConfig) (kind : FrameKind) (number : Word) (shadePhase : Nat)
    (areas : List Rect) : Port :=
  let phase : Phase := if c.driveMode = .none ∨ o.balance = false then .a else .b
  { o with
    config := some c
    pendingWindow := none
    frameNumber := number
    shadePhase := shadePhase
    balance := if c.driveMode = .none then o.balance else !o.balance
    phaseLine := phase
    frame := some {
      kind := kind, first := c.windowFirst, last := c.windowLast, startPhase := phase, invisible := areas
      rowsDone := 0, elapsed := 0 } }

/-- The port OFF with its outputs idle (R87, R99). -/
def portOff (o : Port) : Port :=
  { o with
    state := .off, frame := none, phaseLine := .a, config := windowApplied o, pendingWindow := none
    waitingStops := [] }

/-- The completion that a frame end requests for an entry (R57). -/
def shownCompletion (first last : Nat) (frame : Word) (e : Entry) : Option Completion :=
  if e.state = .committed ∧ e.rect.y ≤ last ∧ first < e.rect.y + e.rect.h then
    some { ticket := e.ticket, status := .shown, detailA := frame, detailB := e.commitFrame.getD 0 }
  else none

/-! ## Packed digits (11.7.3) -/

/-- A value in packed-digit form (11.7.3). -/
def packedForm (v : List Nat) : Nat := ((List.range v.length).map fun i => v.getD i 0 * 16 ^ i).sum

/-- A tally's value as completions report it, 0 for an UNDEFINED tally (6.4). -/
def Tally.reported (x : Tally) : Nat :=
  match x.defn with
  | none => 0
  | some d => packedForm d.value

/-! ## Event records (R91, R127, R162, R180, 11.7.2) -/

/-- The kind, detail a and detail b of an event's record. The bits of a tally's detail a that 11.7.2 does not give are 0
(log entry 35). -/
def eventRecord (s : State) : EventSource → Nat × Nat × Nat
  | .ringFault r =>
    (0x0103,
      match r with
      | .u => 0
      | .b => 1,
      match s.ringFaultEvent r with
      | some .readError => 1
      | some .readTimeout => 2
      | some .badTail => 3
      | none => 0)
  | .panelFault p => (0x0102, p.val, ((s.panelFaultEvent p).getD 0).toNat)
  | .tallyEnd t => (0x0100, t.val * 2 ^ 16 + (s.tally t).endCount, (s.tally t).reported)
  | .tallyWatch t => (0x0101, t.val * 2 ^ 16 + (s.tally t).watchCount, (s.tally t).reported)

/-! ## Fields of records (R13, R24, R118, R137) -/

/-- The check of one field of a PANEL_CONFIG (R13), on the record's bytes. -/
def configFieldPasses (b : List Byte) : Nat → Prop
  | 2 => 8 ≤ field16 b 18 ∧ field16 b 18 ≤ 512 ∧ field16 b 18 % 8 = 0
  | 3 => 8 ≤ field16 b 20 ∧ field16 b 20 ≤ 256
  | 4 => byteAt b 22 = 1 ∨ byteAt b 22 = 2 ∨ byteAt b 22 = 4
  | 5 => byteAt b 23 = 1 ∨ byteAt b 23 = 2 ∨ byteAt b 23 = 4
  | 6 => 4 ≤ field16 b 24 ∧ field16 b 24 ≤ 1000
  | 7 => 1 ≤ byteAt b 26 ∧ byteAt b 26 ≤ 16
  | 8 => field16 b 28 < field16 b 20
  | 9 => field16 b 28 ≤ field16 b 30 ∧ field16 b 30 < field16 b 20
  | 10 => byteAt b 32 ≤ 2
  | 11 => byteAt b 32 = 2 → 1 ≤ byteAt b 33 ∧ byteAt b 33 ≤ 64
  | 12 => byteAt b 34 ≤ 15
  | 13 => byteAt b 35 ≤ 15
  | _ => True

/-- The check of one field of an UPDATE, FILL or CAPTURE (R24), on the record's bytes. -/
def entryFieldPasses (kind : EntryKind) (b : List Byte) (c : PanelConfig) : Nat → Prop
  | 2 => 1 ≤ field16 b 22 ∧ 1 ≤ field16 b 24 ∧ field16 b 18 + field16 b 22 ≤ c.width ∧
      field16 b 20 + field16 b 24 ≤ c.height
  | 3 =>
    match kind with
    | .fill => byteAt b 26 ≤ 2 ^ c.depth - 1
    | .update =>
      field64 b 32 + field32 b 40 * (field16 b 24 - 1) + (field16 b 22 * c.depth + 7) / 8 ≤ 2 ^ 64
    | .capture =>
      field64 b 32 + field32 b 40 * (field16 b 24 - 1) + (field16 b 22 * c.depth + 7) / 8 ≤ 2 ^ 64
  | 4 =>
    match kind with
    | .fill => True
    | .update => (field16 b 22 * c.depth + 7) / 8 ≤ field32 b 40
    | .capture => (field16 b 22 * c.depth + 7) / 8 ≤ field32 b 40
  | _ => True

/-- The bytes an entry of the record stages (R7). -/
def entryCost (b : List Byte) (c : PanelConfig) : Nat := (field16 b 22 * c.depth + 7) / 8 * field16 b 24

/-- The rect of a record meets the reserved rectangle of binding slot `k` of tally `t` on the panel (R9, R25). -/
def clashes (s : State) (p : PanelId) (q : Rect) (t : TallyId) (k : Fin 2) : Prop :=
  ∃ b, s.binding t k = some b ∧ b.panel = p ∧ q.intersects b.rect = true

/-- The first `n` digits of a packed-digit field, digit 0 first (11.7.3). -/
def digitsOf (n w : Nat) : List Nat := (List.range n).map fun i => w / 16 ^ i % 16

/-- The moduli that a TALLY_DEFINE of `n` digits uses. -/
def defineModuli (b : List Byte) (n : Nat) : List Nat := (List.range n).map fun i => byteAt b (18 + i)

/-- Digit `i` of a field is the lowest that its modulus refuses. -/
def firstBadDigit (moduli value : List Nat) (i : Nat) : Prop :=
  i < moduli.length ∧ moduli.getD i 0 ≤ value.getD i 0 ∧ ∀ j, j < i → value.getD j 0 < moduli.getD j 0

/-- Every digit is below its modulus. -/
def digitsFit (moduli value : List Nat) : Prop := ∀ i, i < moduli.length → value.getD i 0 < moduli.getD i 0

/-- The check of one of fields 7 to 12 of a TALLY_BIND (R137, steps 7 to 11) for a set of width `w`, a tally of `n` digits
and a panel of configuration `c`, on the record's bytes. -/
def bindFieldPasses (b : List Byte) (w n : Nat) (c : PanelConfig) : Nat → Prop
  | 7 => w ≤ byteAt b 25 ∧ byteAt b 25 ≤ 40
  | 8 => byteAt b 26 ≤ 2 ^ c.depth - 1
  | 9 => byteAt b 27 ≤ 2 ^ c.depth - 1
  | 10 => byteAt b 28 ≤ n - 1
  | 11 => ∀ j, j < min 7 (n - 1) → byteAt b (29 + j) ≤ 2
  | 12 => byteAt b 37 % 2 = 1 → byteAt b 36 ≤ 3
  | _ => True

/-- The check of one field of a TALLY_DEFINE for tally `t` (R118), on the record's bytes. -/
def defineFieldPasses (b : List Byte) (t : TallyId) : Nat → Prop
  | 2 => 1 ≤ byteAt b 17 ∧ byteAt b 17 ≤ 8
  | 3 => ∀ i, i < byteAt b 17 → 2 ≤ byteAt b (18 + i) ∧ byteAt b (18 + i) ≤ 10
  | 4 => byteAt b 26 ≤ 1
  | 5 => byteAt b 27 ≤ 12 ∨ 16 ≤ byteAt b 27 ∧ byteAt b 27 < 16 + t.val
  | 6 => byteAt b 28 ≤ 2
  | 7 => byteAt b 28 = 2 → digitsFit (defineModuli b (byteAt b 17)) (digitsOf (byteAt b 17) (field32 b 32))
  | 8 => digitsFit (defineModuli b (byteAt b 17)) (digitsOf (byteAt b 17) (field32 b 36))
  | 9 => byteAt b 30 % 2 = 1 →
      digitsFit (defineModuli b (byteAt b 17)) (digitsOf (byteAt b 17) (field32 b 40))
  | 10 => byteAt b 29 ≤ 3
  | _ => True

/-! ## Steps of tallies (R107 to R112) -/

/-- What a list of digits counts: digit i in units of the product of the moduli below it. -/
def numberOf : List Nat → List Nat → Nat
  | m :: ms, v :: vs => v + m * numberOf ms vs
  | _, _ => 0

/-- How many values the moduli allow (R106). -/
def valuesOf : List Nat → Nat
  | [] => 1
  | m :: ms => m * valuesOf ms

/-- A step of the tally would be a carry-out (R109). -/
def TallyDef.carries (d : TallyDef) : Prop := d.value = d.terminal ∧ d.endAction ≠ .stop

/-- A tally after one taken step of definition `d` (R108, R110, R126). -/
def Stepped (d : TallyDef) (x y : Tally) : Prop :=
  y.defn = some d.step.next ∧
    y.endCount = (if d.step.arrived = true ∧ d.endEnabled = true then min (x.endCount + 1) 255 else x.endCount) ∧
    y.watchCount =
      if d.watch = some d.step.next.value ∧ d.watchEnabled = true then min (x.watchCount + 1) 255 else x.watchCount

/-- The tallies and the dirty marks of `t` are those of `s` after an event that steps every RUNNING tally whose
definition `src` picks, with the chains (R111 to R115): a tally is stepped when it is RUNNING and picked, or fed by a
tally that is stepped from the terminal value under WRAP or RELOAD. `prepared` is what the event does to a RUNNING
definition before its step, and all it does to one that is not stepped. -/
def ChainFrom (src : TallyDef → Prop) (prepared : TallyDef → TallyDef) (s t : State) : Prop :=
  ∃ took : TallyId → Bool,
    (∀ k, took k = true ↔ ∃ d, (s.tally k).defn = some d ∧ d.run = .running ∧
      (src d ∨ ∃ j dj, d.source = .tally j ∧ took j = true ∧ (s.tally j).defn = some dj ∧ dj.carries)) ∧
    (∀ k, took k = true → ∀ d, (s.tally k).defn = some d → Stepped (prepared d) (s.tally k) (t.tally k)) ∧
    (∀ k, took k = false → (∀ d, (s.tally k).defn = some d → d.run = .running →
        t.tally k = { s.tally k with defn := some (prepared d) }) ∧
      ((∀ d, (s.tally k).defn = some d → d.run ≠ .running) → t.tally k = s.tally k)) ∧
    ∀ k i, t.binding k i = (s.binding k i).map fun b => { b with dirty := b.dirty || took k }

/-- One step of an ADD to tally `t`, from `s` to `u` (R111, R112, R123): `t` takes it in any state, and so does each
RUNNING tally that a stepped tally feeds from its terminal value under WRAP or RELOAD. -/
def AddStep (t : TallyId) (s u : State) : Prop :=
  ∃ took : TallyId → Bool,
    (∀ k, took k = true ↔ k = t ∨ ∃ d j dj, (s.tally k).defn = some d ∧ d.run = .running ∧ d.source = .tally j ∧
      took j = true ∧ (s.tally j).defn = some dj ∧ dj.carries) ∧
    (∀ k, took k = true → ∀ d, (s.tally k).defn = some d → Stepped d (s.tally k) (u.tally k)) ∧
    (∀ k, took k = false → u.tally k = s.tally k) ∧
    ∀ k i, u.binding k i = (s.binding k i).map fun b => { b with dirty := b.dirty || took k }

/-- What an ms tick does to the ms remainder of a RUNNING tally (R115). -/
def remainderMs (d : TallyDef) : TallyDef :=
  match d.source.period with
  | none => d
  | some n => { d with remainder := d.remainder.map fun r => if r + 1 = n then 0 else r + 1 }

/-- The tally's period ends at the next ms tick (R115). -/
def TallyDef.periodEnds (d : TallyDef) : Prop := ∃ n r, d.source.period = some n ∧ d.remainder = some r ∧ r + 1 = n

/-- The line's accepted level takes the raw level at the next ms tick (R150). -/
def CountInput.expires (c : CountInput) : Prop :=
  ∃ a, c.accepted = some a ∧ a ≠ c.raw ∧ 1 ≤ c.filter ∧ c.filter ≤ c.hold + 1

/-- The level that the line takes as accepted gives an accepted edge (R151). -/
def CountInput.edgeCounts (c : CountInput) : Prop :=
  c.edge = .both ∨ (c.edge = .rise ∧ c.raw = true) ∨ (c.edge = .fall ∧ c.raw = false)

end Sys2Proof.Machine
end

