-- ==== Sys2Proof/Certificates/Slice0/Obligations.lean ====
section
/-! DEFINITION. The statements for the provers. A record command's statement is about the chosen ring's held record
(`Held`): its conclusion spells out the taken record, its completion and its effect, and says that nothing else changes
but CPo's choice of its next write (`SameButChoice`). -/

open Sys2Proof Sys2Proof.Machine

/-! ## The part as a whole -/

/-- The command at the front of the queue takes place on the state with the queue's rest; an empty queue idles. The
queue is the model's interface (log entry 5). -/
def Obligations.StepTakesTheFrontCommand : Prop :=
  (∀ (c : Instr) (rest : List Instr) (s : State), s.pending = c :: rest → step s = exec c (s.setPending rest)) ∧
    ∀ s : State, s.pending = [] → step s = .next s

/-- Every command answers a next state in every state, since what the spec calls a fault is state, and none touches the
queue of the commands that wait. That a command answers where its cause does not hold, with the state as it was, is the
model's choice (log entry 6), and the queue is the model's interface (log entry 5). -/
def Obligations.EveryCommandAnswersAndLeavesTheQueue : Prop :=
  ∀ (i : Instr) (s : State), ∃ t, exec i s = .next t ∧ t.pending = s.pending

/-- The laws of the device hold in the state right after a pin reset. -/
def Obligations.ResetIsLawful : Prop :=
  State.reset.memoriesCanonical ∧ State.reset.listsFit ∧ State.reset.passOverBounded ∧ State.reset.talliesLawful ∧
    State.reset.portsLawful ∧ State.reset.timebaseLawful ∧ State.reset.busAgrees ∧ State.reset.causeFieldFits

/-- Every step keeps the frame store and the staging pool in canonical form. -/
def Obligations.EveryStepKeepsMemoriesCanonical : Prop :=
  ∀ s t : State, step s = .next t → s.memoriesCanonical → t.memoriesCanonical

/-- Every step keeps every tally lawful: each digit stays below its modulus (R106) and each count at most 255 (R126). -/
def Obligations.EveryStepKeepsTalliesLawful : Prop :=
  ∀ s t : State, step s = .next t → s.talliesLawful → t.talliesLawful

/-- Every step keeps every port lawful: among other things the balance is 0 in OFF (R104) and a configuration stays
within the ranges of R13. -/
def Obligations.EveryStepKeepsPortsLawful : Prop :=
  ∀ s t : State, step s = .next t → s.portsLawful → t.portsLawful

/-- Every step keeps every pending list within 32 entries (R19), the pass-over count within the starvation limit (R166),
the timebase record lawful (R146), the channels in agreement with the bus (R67, R69) and the cause field at most 10
(R186, R190). -/
def Obligations.EveryStepKeepsBounds : Prop :=
  (∀ s t : State, step s = .next t → s.listsFit → t.listsFit) ∧
    (∀ s t : State, step s = .next t → s.passOverBounded → t.passOverBounded) ∧
    (∀ s t : State, step s = .next t → s.timebaseLawful → t.timebaseLawful) ∧
    (∀ s t : State, step s = .next t → s.busAgrees → t.busAgrees) ∧
    ∀ s t : State, step s = .next t → s.causeFieldFits → t.causeFieldFits

/-! ## Pins and resets -/

/-- The pin reset values that the spec's tables give (R10, R62, R69, R80, R105, R130, R136, R146, R149, R154, R157,
R159, R175, R186). -/
def Obligations.ResetHoldsThePinResetValues : Prop :=
  let s := State.reset
  s.dev.state = .init ∧ s.dev.cause = .none ∧ s.dev.causeField = 0 ∧ s.dev.setup = none ∧ s.dev.setupAddress = 0 ∧
    s.dev.setupRead = none ∧ s.dev.enable = false ∧ s.dev.intEnable = false ∧ s.dev.softResetRequested = false ∧
    s.tb.running = false ∧ s.tb.refMhz = none ∧ s.tb.us = 0 ∧ s.tb.ms = 0 ∧
    (∀ n, (s.cin n).edge = .rise ∧ (s.cin n).filter = 0 ∧ (s.cin n).accepted = none ∧ (s.cin n).hold = 0) ∧
    (∀ g, (s.group g).period = 100 ∧ (s.group g).duty = 50 ∧ (s.group g).epoch = 0) ∧ (∀ z, s.zone z = none) ∧
    (∀ t, (s.tally t).defn = none ∧ (s.tally t).endCount = 0 ∧ (s.tally t).watchCount = 0) ∧
    (∀ g, s.glyph g = .empty) ∧ (∀ t k, s.binding t k = none) ∧ (∀ i, s.slot i = .free) ∧
    (∀ c, s.channel c = .free) ∧ s.waitQueue = [] ∧ s.rrNext = 0 ∧ s.flight = none ∧
    (∀ p, (s.port p).config = none ∧ (s.port p).state = .off ∧ (s.port p).frameNumber = 0 ∧
      (s.port p).shadePhase = 0 ∧ (s.port p).balance = false ∧ (s.port p).pendingWindow = none ∧
      (s.port p).frame = none ∧ (s.port p).phaseLine = .a ∧ (s.port p).waitingStarts = [] ∧
      (s.port p).waitingStops = []) ∧
    (∀ p, s.list p = []) ∧
    (∀ r, (s.ring r).head = 0 ∧ (s.ring r).tail = 0 ∧ (s.ring r).state = .running ∧ (s.ring r).holder = none ∧
      (s.ring r).take = 0 ∧ (s.ring r).outstanding = [] ∧ (s.ring r).syncs = []) ∧
    s.passOver = 0 ∧ s.cpo.post = 0 ∧ s.cpo.release = 0 ∧ s.cpo.phase = false ∧ s.cpo.reserved = 0 ∧
    s.cpo.queue = [] ∧ s.cpo.presented = none ∧ s.cpo.eventPointer = 0 ∧ s.cpo.lastWritten = .completion ∧
    s.cpo.faultCause = none ∧ (∀ p, s.panelFaultEvent p = none) ∧ ∀ r, s.ringFaultEvent r = none

/-- RESET_n asserted: every block takes its pin reset values whatever it held (R95, R187), but the pins' levels, the
slots' bytes (R78), the frame store until INIT clears it (R2; log entry 3) and the panels' drivers (log entry 27) stay.
-/
def Obligations.PinResetGivesEveryBlockItsResetValues : Prop :=
  ∀ s : State, ∃ t, exec .resetNAssert s = .next t ∧
    t.dev = Device.reset ∧ t.tb = Timebase.reset ∧
    (∀ n, t.cin n = { CountInput.reset with raw := (s.cin n).raw }) ∧
    t.groups = State.reset.groups ∧ t.zones = State.reset.zones ∧ t.tallies = State.reset.tallies ∧
    t.glyphs = State.reset.glyphs ∧ t.bindings = State.reset.bindings ∧ t.slots = State.reset.slots ∧
    t.channels = State.reset.channels ∧ t.waitQueue = [] ∧ t.rrNext = 0 ∧ t.flight = none ∧
    (∀ p, t.port p = { Port.reset with faultLine := (s.port p).faultLine, lastRow := (s.port p).lastRow }) ∧
    t.lists = State.reset.lists ∧ t.ringU = Ring.reset ∧ t.ringB = Ring.reset ∧ t.passOver = 0 ∧
    t.cpo = Poster.reset ∧ t.staging = s.staging ∧ t.regions = s.regions ∧ t.pending = s.pending

/-- RESET_n released: the device is in INIT. The last byte of the clearing written: every pixel is shade 0, and the
device is in HALTED (R187, R2; the clearing in one event: log entry 3). Nothing else changes. -/
def Obligations.PinResetReleaseAndClearing : Prop :=
  (∀ s : State, s.dev.resetAsserted = true →
    ∃ t, exec .resetNRelease s = .next t ∧ t = { s with dev := { s.dev with resetAsserted := false, state := .init } }) ∧
    ∀ s : State, s.dev.resetAsserted = false → s.dev.state = .init →
      ∃ t, exec .initClearEnd s = .next t ∧ t.dev.state = .halted ∧ (∀ p x y, (t.region p).shade x y = 0) ∧
        t = { s with dev := { s.dev with state := .halted }, regions := t.regions }

/-- PFLT_n asserted on a panel that runs frames (R90, R91): the frame ends without a frame end, the outputs go idle, the
panel is FAULTED with its pending window written and its balance and frame number kept; its list is flushed as R38 sets
out unless it was DRAINING, with the transfers and slots of its uncommitted entries dealt with as R37 says (where no two
operations under way have one owner, R69, and within a list none two entries, R170); its waiting records complete
PANEL_FAULT, starts first; CPo has the event, the earlier one if one waited, and none in RESETTING. PFLT_n asserted on
an OFF or FAULTED panel, and a release of it, change the line's level and nothing else. -/
def Obligations.FaultLines : Prop :=
  (∀ (p : PanelId) (s : State), (s.port p).faultLine = false → (s.port p).state.runsFrames = true →
     recordsDistinct (s.list p) →
     ∃ t, exec (.pfltAssert p) s = .next t ∧
       t.port p = { s.port p with
         faultLine := true, state := .faulted, frame := none, phaseLine := .a, config := windowApplied (s.port p),
         pendingWindow := none, waitingStarts := [], waitingStops := [] } ∧
       (∀ q, q ≠ p → t.port q = s.port q) ∧
       t.list p = (if (s.port p).state = .draining then s.list p else (s.list p).filter fun e => e.state = .writing) ∧
       (s.writing = true → t.cpo.queue = s.cpo.queue ++
         (if (s.port p).state = .draining then []
           else (s.list p).filterMap (flushCompletion .panelFault (s.port p).frameNumber)) ++
         completionsOf (s.port p).waitingStarts .panelFault (s.port p).frameNumber 0 ++
         completionsOf (s.port p).waitingStops .panelFault (s.port p).frameNumber 0) ∧
       t.panelFaultEvent p = (if s.dev.state = .resetting then s.panelFaultEvent p
         else some ((s.panelFaultEvent p).getD (s.port p).frameNumber)) ∧
       (s.transfersApart →
         Withdrawn (fun o => (s.port p).state ≠ .draining ∧ flushedOwner p s o) s t ∧
           ∀ q, q ≠ p → Granted (s.list q) (t.list q)) ∧
       t.dev = s.dev ∧ t.regions = s.regions ∧ t.tallies = s.tallies ∧ t.bindings = s.bindings) ∧
    (∀ (p : PanelId) (s : State), ∃ t, exec (.pfltRelease p) s = .next t ∧
      t = s.setPort p { s.port p with faultLine := false }) ∧
      ∀ (p : PanelId) (s : State), (s.port p).faultLine = false → (s.port p).state = .off ∨ (s.port p).state = .faulted →
        ∃ t, exec (.pfltAssert p) s = .next t ∧ SameButChoice (s.setPort p { s.port p with faultLine := true }) t

/-! ## Registers and Device Control -/

/-- A CONTROL write without SOFT_RESET, by either of its rows (log entry 9): ignored while RESET_n is asserted and in
INIT, and otherwise INT_ENABLE takes its bit and ENABLE acts by R188 and R189 (the cause field beside NONE is a free
value: log entry 31). A write to SETUP_LO or SETUP_HI sets its half of the setup address, a write to STATUS or C_POST is
ignored, and all are ignored while RESET_n is asserted and in INIT (R187, R188). Nothing else changes. Every register
reads 0 while RESET_n is asserted and in INIT, and otherwise the state it names, STATUS field by field (11.3, R188; that
a read is a function of the state is log entry 29's). -/
def Obligations.RegisterWrites : Prop :=
  (∀ (v : Word) (c : Instr) (s : State), c = .enable v ∨ c = .intEnable v → v.getLsbD 1 = false →
     ∃ t, exec c s = .next t ∧
       SameButChoice
         (if s.dev.resetAsserted = true ∨ s.dev.state = .init then s
           else { s with dev := enableOutcome { s.dev with intEnable := v.getLsbD 2 } (v.getLsbD 0) }) t) ∧
    (∀ (r : PlainRegister) (v : Word) (s : State), ∃ t, exec (.registerWrite r v) s = .next t ∧
      t.dev = (if s.dev.resetAsserted = true ∨ s.dev.state = .init then s.dev
        else match r with
          | .setupLo => { s.dev with
              setupAddress := BitVec.ofNat 64 (s.dev.setupAddress.toNat / 2 ^ 32 * 2 ^ 32 + v.toNat) }
          | .setupHi => { s.dev with
              setupAddress := BitVec.ofNat 64 (v.toNat * 2 ^ 32 + s.dev.setupAddress.toNat % 2 ^ 32) }
          | .status => s.dev
          | .cPost => s.dev) ∧
      t = { s with dev := t.dev }) ∧
    ∀ s : State,
      (s.dev.resetAsserted = true ∨ s.dev.state = .init → ∀ q, s.readRegister q = 0) ∧
      (s.dev.resetAsserted = false → s.dev.state ≠ .init → s.causeFieldFits →
        (s.readRegister .control).toNat = (if s.dev.enable then 1 else 0) + (if s.dev.intEnable then 4 else 0) ∧
        (∀ n, n = (s.readRegister .status).toNat →
          n % 8 = (match s.dev.state with
            | .init => 0
            | .halted => 1
            | .setup => 2
            | .active => 3
            | .paused => 4
            | .resetting => 5
            | .qfault => 6) ∧
          n / 8 % 2 = 0 ∧
          n / 16 % 16 = (match s.dev.cause with
            | .none => 0
            | .setupInvalid => 1
            | .setupRead => 2
            | .poster .cwriteError => 3
            | .poster .cwriteTimeout => 4
            | .poster .badRelease => 5) ∧
          n / 256 % 16 = s.dev.causeField ∧
          (∀ r : RingId, n / (if r = .u then 4096 else 16384) % 4 =
            match (s.ring r).state with
            | .running => 0
            | .stalled _ => 1
            | .fault => 2) ∧
          n / 65536 = 0) ∧
        (s.readRegister .setupLo).toNat = s.dev.setupAddress.toNat % 2 ^ 32 ∧
        (s.readRegister .setupHi).toNat = s.dev.setupAddress.toNat / 2 ^ 32 ∧
        s.readRegister .uTail = BitVec.ofNat 32 s.ringU.tail ∧ s.readRegister .bTail = BitVec.ofNat 32 s.ringB.tail ∧
        s.readRegister .cRelease = BitVec.ofNat 32 s.cpo.release ∧ s.readRegister .cPost = BitVec.ofNat 32 s.cpo.post)

/-- SOFT_RESET is ignored in INIT and RESETTING, but for INT_ENABLE in RESETTING, and recorded in SETUP, where the end
of the setup read then enters RESETTING (R188, R189). In HALTED, ACTIVE, PAUSED or QFAULT (R192): DC, RT, TU, SP, CU,
TY, GB, BU, TB and CPo do their parts in one event, and what is not reset is kept. A panel in STARTING, RUNNING or
FROZEN begins to drain, or ends its drain at once with no frame in progress, its waiting records discarded; a DRAINING
panel drains on, its waiting stops discarded; an OFF or FAULTED panel is unchanged (R94). Every line's accepted level
takes its raw level whether or not the timebase runs (log entry 21). -/
def Obligations.SoftResetEntersResetting : Prop :=
  (∀ (v : Word) (s : State), v.getLsbD 1 = true →
     (s.dev.resetAsserted = true ∨ s.dev.state = .init →
       ∃ t, exec (.softReset v) s = .next t ∧ SameButChoice s t) ∧
     (s.dev.resetAsserted = false → s.dev.state = .setup → ∃ t, exec (.softReset v) s = .next t ∧
       SameButChoice { s with dev := { s.dev with intEnable := v.getLsbD 2, softResetRequested := true } } t) ∧
     (s.dev.resetAsserted = false → s.dev.state = .resetting → ∃ t, exec (.softReset v) s = .next t ∧
       SameButChoice { s with dev := { s.dev with intEnable := v.getLsbD 2 } } t)) ∧
    (∀ (s : State) (f : Flight) (a : ReadEnd), s.dev.state = .setup → s.dev.softResetRequested = true →
      s.flight = some f → f.requester = .setup → (∀ b, a = .ok b → b.length = 64) →
      ∃ t, exec (.setupReadEnd a) s = .next t ∧ t.flight = none ∧
        t.dev = { s.dev with
          state := .resetting, cause := .none, causeField := 0, setupRead := none, enable := false
          softResetRequested := false }) ∧
    (∀ (v : Word) (s : State), s.dev.resetAsserted = false → v.getLsbD 1 = true →
     s.dev.state = .halted ∨ s.dev.state = .active ∨ s.dev.state = .paused ∨ s.dev.state = .qfault →
     ∃ t, exec (.softReset v) s = .next t ∧
       t.dev = { s.dev with
         state := .resetting, cause := .none, causeField := 0, setupRead := none, enable := false
         intEnable := v.getLsbD 2, softResetRequested := false } ∧
       (∀ r, t.ring r = { s.ring r with state := .running, holder := none, outstanding := [], syncs := [] }) ∧
       t.passOver = 0 ∧
       t.cpo = { Poster.reset with post := s.cpo.post, release := s.cpo.release, phase := s.cpo.phase } ∧
       (∀ p, t.list p = []) ∧ t.waitQueue = [] ∧ (∀ c, t.channel c = .free) ∧
       (s.flight = none → t.flight = none) ∧
       (∀ f, s.flight = some f → (∀ c, f.requester ≠ .channel c) → t.flight = some f) ∧
       (∀ f c op, s.flight = some f → f.requester = .channel c → s.channel c = .inFlight op →
         t.flight = some { f with requester := .orphan op }) ∧
       (∀ i o, s.slot i = .owned o → t.slot i = if flyingOwner s = some o then .reclaim else .free) ∧
       (∀ i, (∀ o, s.slot i ≠ .owned o) → t.slot i = s.slot i) ∧
       (∀ t', t.tally t' = Tally.reset) ∧ (∀ g, t.glyph g = .empty) ∧ (∀ t' k, t.binding t' k = none) ∧
       (∀ z, t.zone z = none) ∧ (∀ g, t.group g = BlinkGroup.reset) ∧
       (∀ n, t.cin n = { CountInput.reset with raw := (s.cin n).raw, accepted := some (s.cin n).raw }) ∧
       t.tb = s.tb ∧ t.regions = s.regions ∧ t.staging = s.staging ∧ t.rrNext = s.rrNext ∧ t.pending = s.pending) ∧
    ∀ (v : Word) (s : State) (p : PanelId), s.dev.resetAsserted = false → v.getLsbD 1 = true →
      s.dev.state = .halted ∨ s.dev.state = .active ∨ s.dev.state = .paused ∨ s.dev.state = .qfault →
      ∃ t, exec (.softReset v) s = .next t ∧
        ((s.port p).state.accepting = true → (s.port p).frame.isSome →
          t.port p = { s.port p with state := .draining, waitingStarts := [], waitingStops := [] }) ∧
        ((s.port p).state.accepting = true → (s.port p).frame = none →
          ((s.port p).balance = false →
            t.port p = portOff { s.port p with waitingStarts := [], waitingStops := [] }) ∧
          ∀ c, (s.port p).balance = true → windowApplied (s.port p) = some c →
            t.port p = portAtBoundary
              { s.port p with state := .draining, waitingStarts := [], waitingStops := [] } c .balancing
              ((s.port p).frameNumber + 1) (((s.port p).shadePhase + 1) % (2 ^ c.depth - 1)) []) ∧
        ((s.port p).state = .draining → t.port p = { s.port p with waitingStops := [] }) ∧
        ((s.port p).state = .off ∨ (s.port p).state = .faulted → t.port p = s.port p)

/-- The cause field of a failed setup block is its first failing field, and a block passes when every field does (R190).
-/
def Obligations.SetupBlockChecks : Prop :=
  ∀ b : List Byte,
    (setupFailing b = none ↔ ∀ n, 1 ≤ n → n ≤ 10 → setupFieldPasses b n) ∧
      ∀ n, setupFailing b = some n ↔
        1 ≤ n ∧ n ≤ 10 ∧ ¬setupFieldPasses b n ∧ ∀ m, 1 ≤ m → m < n → setupFieldPasses b m

/-- The setup read ends in bus error, by its timeout, or with a block that fails: HALTED with the cause, ENABLE 0, the
bus free, and nothing else changed (R189). That the timeout may come at any time of the read is the model's choice: the
65 536 REFCLK periods of R189 are not counted (log entry 17). -/
def Obligations.FailedSetups : Prop :=
  ∀ (s : State) (f : Flight), s.dev.state = .setup → s.dev.softResetRequested = false → s.flight = some f →
    f.requester = .setup →
    (∀ c : Instr, c = .setupReadEnd .busError ∨ c = .setupReadEnd .timeout ∨ c = .setupReadTimeout →
      ∃ t, exec c s = .next t ∧ SameButChoice { withBusFree s with
        dev := { s.dev with state := .halted, cause := .setupRead, causeField := 0, enable := false } } t) ∧
    ∀ (b : List Byte) (n : Nat), b.length = 64 → setupFailing b = some n →
      ∃ t, exec (.setupReadEnd (.ok b)) s = .next t ∧ SameButChoice { withBusFree s with
        dev := { s.dev with state := .halted, cause := .setupInvalid, causeField := n, enable := false } } t

/-- A valid setup block takes effect in the one event that ends SETUP (R191): the setup values are the block's, the
rings and the completion ring begin anew with phase 1, the timebase starts, keeps or restarts (R147), with the blink
groups and count inputs as they are when it goes on at the same REF_MHZ, and the device is ACTIVE, or PAUSED when ENABLE
was written 0 meanwhile (ENABLE as last written decides: log entry 38). -/
def Obligations.ValidSetupTakesEffect : Prop :=
  ∀ (s : State) (f : Flight) (b : List Byte), s.dev.state = .setup → s.dev.softResetRequested = false →
    s.flight = some f → f.requester = .setup → b.length = 64 → setupFailing b = none →
    ∃ t, exec (.setupReadEnd (.ok b)) s = .next t ∧
      t.dev.state = (if s.dev.enable then .active else .paused) ∧
      t.ringBase .u = field64 b 0 ∧ t.ringBase .b = field64 b 8 ∧ t.completionBase = field64 b 16 ∧
      t.ringSize .u = field16 b 24 ∧ t.ringSize .b = field16 b 26 ∧ t.completionSize = field16 b 28 ∧
      t.starvationLimit = byteAt b 31 ∧ t.burstTimeoutUs = field16 b 32 ∧
      (∀ r, t.ring r = Ring.reset) ∧ t.passOver = 0 ∧
      t.cpo.post = 0 ∧ t.cpo.release = 0 ∧ t.cpo.phase = true ∧ t.cpo.reserved = 0 ∧ t.cpo.queue = [] ∧
      t.tb = (if s.tb.running = true ∧ s.tb.refMhz = some (byteAt b 30) then s.tb
        else { running := true, refMhz := some (byteAt b 30), us := 0, ms := 0 }) ∧
      (s.tb.running = true → s.tb.refMhz ≠ some (byteAt b 30) → ∀ g, t.group g = { s.group g with epoch := 0 }) ∧
      (s.tb.running = false ∨ s.tb.refMhz ≠ some (byteAt b 30) →
        ∀ n, t.cin n = { s.cin n with accepted := some (s.cin n).raw, hold := 0 }) ∧
      (s.tb.running = true → s.tb.refMhz = some (byteAt b 30) → t.cins = s.cins ∧ t.groups = s.groups) ∧
      t.flight = none ∧ t.ports = s.ports ∧ t.lists = s.lists ∧ t.regions = s.regions ∧ t.tallies = s.tallies ∧
      t.glyphs = s.glyphs ∧ t.bindings = s.bindings ∧ t.zones = s.zones ∧ t.slots = s.slots ∧
      t.channels = s.channels ∧ t.pending = s.pending

/-- QFAULT is left only by a soft reset or a pin reset (R194), and RESETTING only for HALTED by its exit, or by a pin
reset; the exit is taken exactly when every panel is OFF or FAULTED, no slot is RECLAIM and no transfer is in flight
(R193; otherwise it changes nothing, log entry 6). -/
def Obligations.QfaultAndResettingAreLeftOnlyAsTheSpecSays : Prop :=
  ((∀ (i : Instr) (s t : State), s.dev.state = .qfault → s.dev.resetAsserted = false → exec i s = .next t →
     t.dev.state = .qfault ∨ i = .resetNAssert ∨
       ∃ v : Word, v.getLsbD 1 = true ∧ (i = .softReset v ∨ i = .enable v ∨ i = .intEnable v)) ∧
     ∀ (i : Instr) (s t : State), s.dev.state = .resetting → s.dev.resetAsserted = false → exec i s = .next t →
       t.dev.state = .resetting ∨ i = .resettingExit ∧ t.dev.state = .halted ∨ i = .resetNAssert) ∧
    ∀ s : State, s.dev.state = .resetting → ∃ t, exec .resettingExit s = .next t ∧
      t = (if (∀ p, (s.port p).state = .off ∨ (s.port p).state = .faulted) ∧ (∀ i, s.slot i ≠ .reclaim) ∧ s.flight = none
        then { s with dev := { s.dev with state := .halted } } else s)

/-! ## Submission rings -/

/-- A tail write (R160, R162): ignored but in ACTIVE, PAUSED and QFAULT, and in RING_FAULT; BAD_TAIL at or above the
size; below it the tail takes the value, and a ring it empties loses its held record and its stall. -/
def Obligations.TailWrites : Prop :=
  ∀ (r : RingId) (v : Word) (s : State), ∃ t, exec (.tailWrite r v) s = .next t ∧
    ((s.dev.state ≠ .active ∧ s.dev.state ≠ .paused ∧ s.dev.state ≠ .qfault) ∨ (s.ring r).state = .fault →
      SameButChoice s t) ∧
    (s.dev.state = .active ∨ s.dev.state = .paused ∨ s.dev.state = .qfault → (s.ring r).state ≠ .fault →
      (s.ringSize r ≤ v.toNat → SameButChoice (withRingFault s r .badTail) t) ∧
      (v.toNat < s.ringSize r → (s.ring r).head ≠ v.toNat →
        SameButChoice (s.setRing r { s.ring r with tail := v.toNat }) t) ∧
      (v.toNat < s.ringSize r → (s.ring r).head = v.toNat →
        SameButChoice (s.setRing r { s.ring r with tail := v.toNat, holder := none, state := .running }) t))

/-- The end of a ring record read in ACTIVE, PAUSED and QFAULT (R161): the record is held if the ring is still not
empty, a failure faults the ring, and an empty ring or one in RING_FAULT discards any outcome. In RESETTING the outcome
is discarded (R173). A ring that was emptied and filled again during the read is judged at the end (log entry 36). -/
def Obligations.RingReadEnds : Prop :=
  ∀ (s : State) (f : Flight) (r : RingId), s.flight = some f → f.requester = .ring r → f.write = false →
    (∀ data : List Byte, data.length = f.length → ∃ t, exec (.ringReadEnd (.ok data)) s = .next t ∧
      SameButChoice
        (if (s.dev.state = .active ∨ s.dev.state = .paused ∨ s.dev.state = .qfault) ∧ (s.ring r).state ≠ .fault ∧
            (s.ring r).head ≠ (s.ring r).tail then
          (withBusFree s).setRing r { s.ring r with holder := some data }
        else withBusFree s) t) ∧
    ∀ (a : ReadEnd) (c : RingCause), a = .busError ∧ c = .readError ∨
        a = .timeout ∧ c = .readTimeout ∧ s.burstTimeoutUs ≤ f.elapsed →
      ∃ t, exec (.ringReadEnd a) s = .next t ∧
        SameButChoice
          (if (s.dev.state = .active ∨ s.dev.state = .paused ∨ s.dev.state = .qfault) ∧ (s.ring r).state ≠ .fault ∧
              (s.ring r).head ≠ (s.ring r).tail then withRingFault (withBusFree s) r c
          else withBusFree s) t

/-- When a ring is able (R163), and the arbiter's choice with the pass-over count after it (R166). -/
def Obligations.ArbiterChoice : Prop :=
  (∀ (s : State) (r : RingId), ringAble s r = true ↔
    s.dev.state = .active ∧ (s.ring r).state = .running ∧ (s.ring r).holder.isSome ∧
      s.cpo.reserved + s.eventLoad < s.freePlaces) ∧
    ∀ s : State,
      (ringAble s .u = true → ringAble s .b = false → chosenRing s = some .u ∧ countAfter s .u = s.passOver) ∧
      (ringAble s .u = false → ringAble s .b = true → chosenRing s = some .b ∧ countAfter s .b = 0) ∧
      (ringAble s .u = true → ringAble s .b = true → s.passOver < s.starvationLimit →
        chosenRing s = some .u ∧ countAfter s .u = s.passOver + 1) ∧
      (ringAble s .u = true → ringAble s .b = true → s.passOver = s.starvationLimit →
        chosenRing s = some .b ∧ countAfter s .b = 0) ∧
      (ringAble s .u = false → ringAble s .b = false → chosenRing s = none)

/-- A held NOP is taken and completes OK with details 0 (R169); a held record of an unknown kind is taken and completes
UNKNOWN_KIND with the kind in detail a, whatever its reserved header area holds; one of any known kind whose reserved
header area is not zero is taken and completes REFUSED_PARAM with details 0, before its owner sees it (R165). -/
def Obligations.NopUnknownKindAndReservedHeader : Prop :=
  ((∀ (s : State) (r : RingId) (record : List Byte), Held .nop s r record →
     ∃ t, exec .nop s = .next t ∧ SameButChoice (afterAnswer s r record .ok 0 0) t) ∧
     ∀ (s : State) (r : RingId) (record : List Byte), chosenRing s = some r → (s.ring r).holder = some record →
       recordKind record = none →
       ∃ t, exec .unknownKind s = .next t ∧
         SameButChoice (afterAnswer s r record .unknownKind (field16 record 0) 0) t) ∧
    ∀ (k : Kind) (s : State) (r : RingId) (record : List Byte), chosenRing s = some r →
      (s.ring r).holder = some record → recordKind record = some k → headerClear record = false →
      ∃ t, exec k.command s = .next t ∧ SameButChoice (afterAnswer s r record .refusedParam 0 0) t

/-- A held SYNC is taken (R171). With no earlier record outstanding it completes OK with detail a 0; with earlier ones
it waits, with their number recorded, and nothing is requested. -/
def Obligations.SyncWaitsForEarlierRecords : Prop :=
  ∀ (s : State) (r : RingId) (record : List Byte), Held .sync s r record →
    ((s.ring r).outstanding = [] → (s.ring r).syncs = [] →
      ∃ t, exec .sync s = .next t ∧ SameButChoice (afterAnswer s r record .ok 0 0) t) ∧
    ((s.ring r).outstanding ≠ [] → syncDue s r = false →
      (∀ n ∈ (s.ring r).outstanding.head?, n ≠ (s.ring r).take + 1) →
      ∃ t, exec .sync s = .next t ∧ SameButChoice
        ((afterTake s r).setRing r { (afterTake s r).ring r with
          syncs := (s.ring r).syncs ++
            [{ ticket := nextTicket s r record, earlier := (s.ring r).outstanding.length }] }) t)

/-- A held UPDATE, CAPTURE or GLYPH_LOAD that passes its other checks but finds too few FREE slots is not taken: its
ring is STALLED with the need, and nothing else changes but the pass-over count (R25, R63, R164, R167). -/
def Obligations.ShortageOfSlotsStallsTheRing : Prop :=
  (∀ (kind : EntryKind) (k : Kind) (s : State) (r : RingId) (record : List Byte) (p : PanelId) (c : PanelConfig),
    kind = .update ∧ k = .update ∨ kind = .capture ∧ k = .capture → Held k s r record → byteAt record 16 = p.val →
    (s.port p).state.accepting = true → (s.port p).config = some c → (entryBody record).failing kind c = none →
    laterRefusal kind p (entryBody record) c s = none →
    s.freeSlots.length < ceilDiv ((rectAt record 18).cost c.depth) 2048 →
    ∃ t, exec k.command s = .next t ∧
      SameButChoice (afterStall s r (ceilDiv ((rectAt record 18).cost c.depth) 2048)) t) ∧
    ∀ (s : State) (r : RingId) (record : List Byte) (g : Fin 4), Held .glyphLoad s r record → byteAt record 16 = g.val →
      (s.glyph g).stateCode ≠ 1 → references g s = 0 → (loadBody record).failing = none →
      s.freeSlots.length < ceilDiv (13 * (ceilDiv (byteAt record 17) 8 * byteAt record 18)) 2048 →
      ∃ t, exec .glyphLoad s = .next t ∧
        SameButChoice (afterStall s r (ceilDiv (13 * (ceilDiv (byteAt record 17) 8 * byteAt record 18)) 2048)) t

/-- Outside ACTIVE no record is taken: no command but a setup load and a pin reset, which begin the rings anew, changes
a head or a take number (R163, R172). -/
def Obligations.OnlyActiveTakesRecords : Prop :=
  ∀ (i : Instr) (s t : State) (r : RingId), s.dev.state ≠ .active → exec i s = .next t → i ≠ .resetNAssert →
    (∀ a, i ≠ .setupReadEnd a) → (t.ring r).head = (s.ring r).head ∧ (t.ring r).take = (s.ring r).take

/-! ## Completion ring -/

/-- CPo's choice of its next write, with none presented or in flight (R178): in ACTIVE and PAUSED one kind waiting is
chosen, and of both the one not last written; an event waits only while free places exceed the reservations. The event
chosen is the first set source from the event pointer onward in the cyclic order of 38 positions (R180), and none is
chosen only when none is set. Every command ends with that choice: its next state is the choice made on its effect, with
the choice as it stood before, after the withdrawal of a presented event that is no longer set, and nothing is left to
choose (where in a command the choice falls is log entry 12's, the withdrawal log entry 13's). -/
def Obligations.ChoiceOfTheNextWrite : Prop :=
  (∀ s : State, s.cpo.presented = none → s.posterInFlight = none →
     (s.writing = false → chooseWrite s = s) ∧
     (s.writing = true →
       (s.cpo.queue = [] → (s.freePlaces ≤ s.cpo.reserved ∨ s.nextEvent = none) → chooseWrite s = s) ∧
       (s.cpo.queue ≠ [] → (s.freePlaces ≤ s.cpo.reserved ∨ s.nextEvent = none ∨ s.cpo.lastWritten = .event) →
         (chooseWrite s).cpo = { s.cpo with presented := some .completion, lastWritten := .completion }) ∧
       ∀ e, s.nextEvent = some e → s.cpo.reserved < s.freePlaces →
         (s.cpo.queue = [] ∨ s.cpo.lastWritten = .completion) →
         (chooseWrite s).cpo = { s.cpo with
           presented := some (.event e), lastWritten := .event, eventPointer := (e.position + 1) % 38 })) ∧
    (∀ s : State, s.cpo.eventPointer < 38 →
      (s.nextEvent = none ↔ ∀ e, s.eventSet e = false) ∧
        ∀ e, s.nextEvent = some e → s.eventSet e = true ∧ ∀ e', s.eventSet e' = true →
          (e.position + 38 - s.cpo.eventPointer) % 38 ≤ (e'.position + 38 - s.cpo.eventPointer) % 38) ∧
    (∀ s : State, (∀ e, s.cpo.presented = some (.event e) → s.eventSet e = true) → withdrawStaleEvent s = s) ∧
    (∀ (s : State) (e : EventSource), s.cpo.presented = some (.event e) → s.eventSet e = false →
      withdrawStaleEvent s = { s with cpo := { s.cpo with presented := none } }) ∧
    (∀ (i : Instr) (s t : State), exec i s = .next t → s.choiceMade → t.choiceMade) ∧
    ∀ (i : Instr) (s t : State), exec i s = .next t → s.choiceMade → t.writing = true →
      i ≠ .burstIssue ∨ t.posterInFlight = none → t = chooseWrite (withdrawStaleEvent (beforeChoice s t))

/-- The bus free and a write of CPo presented in ACTIVE or PAUSED: it is issued before any other transfer, 16 bytes at
completion base + 16 post (R68, R174, R178). A completion leaves the head of the queue, with the status codes of 11.7.2;
an event's record has the kind and details of R180 and 11.7.2 (bits 31 to 20 and 15 to 8 of a tally's detail a are log
entry 35's choice), its one source is cleared, and every other source and count, the tallies' definitions and the rest
of CPo's record stay. -/
def Obligations.PosterWritesAreIssuedFirst : Prop :=
  ∀ s : State, s.flight = none → s.dev.state = .active ∨ s.dev.state = .paused →
    (∀ (c : Completion) (rest : List Completion), s.cpo.presented = some .completion → s.cpo.queue = c :: rest →
      ∃ t, exec .burstIssue s = .next t ∧
        t = { s with
          cpo := { s.cpo with presented := none, queue := rest }
          flight := some {
            requester := .poster (.completion c), write := true, address := s.completionBase + 16 * s.cpo.post,
            length := 16, elapsed := 0,
            data := leBytes 4 c.ticket.tag.toNat ++ leBytes 2 c.ticket.kind.toNat ++ leBytes 1 c.status.code ++
              leBytes 1 ((if c.ticket.ring = .u then 0 else 1) + if s.cpo.phase then 128 else 0) ++
              leBytes 4 c.detailA.toNat ++ leBytes 4 c.detailB.toNat } }) ∧
    ([Status.ok, .shown, .hidden, .cancelled, .notFound, .tooLarge, .refusedState, .refusedParam, .conflict, .inUse,
      .listFull, .fetchError, .fetchTimeout, .writeError, .writeTimeout, .panelStopped, .panelFault,
      .unknownKind].map Status.code = List.range 18) ∧
    ∀ e : EventSource, s.cpo.presented = some (.event e) →
      ∃ t data, exec .burstIssue s = .next t ∧
        t.flight = some {
          requester := .poster (.event e), write := true, address := s.completionBase + 16 * s.cpo.post,
          length := 16, elapsed := 0, data := data } ∧
        (s.talliesLawful → data = leBytes 4 0 ++ leBytes 2 (eventRecord s e).1 ++ leBytes 1 0 ++
          leBytes 1 (2 + if s.cpo.phase then 128 else 0) ++
          leBytes 4 (eventRecord s e).2.1 ++ leBytes 4 (eventRecord s e).2.2) ∧
        (∀ k, t.tally k = { s.tally k with
          endCount := if e = .tallyEnd k then 0 else (s.tally k).endCount
          watchCount := if e = .tallyWatch k then 0 else (s.tally k).watchCount }) ∧
        (∀ r, t.ringFaultEvent r = if e = .ringFault r then none else s.ringFaultEvent r) ∧
        (∀ p, t.panelFaultEvent p = if e = .panelFault p then none else s.panelFaultEvent p) ∧
        t.eventSet e = false ∧ (∀ e', e' ≠ e → t.eventSet e' = s.eventSet e') ∧
        t = { s with
          tallies := t.tallies, flight := t.flight
          cpo := { s.cpo with
            presented := none, panelFaults := t.cpo.panelFaults, ringFaultU := t.cpo.ringFaultU
            ringFaultB := t.cpo.ringFaultB } }

/-- A completion or event record is written (R179): the bus is free, post moves on, the phase flips where post wraps to
0; for a completion the reservation count falls by one and its take number leaves the outstanding set of its ring, but
in RESETTING neither (R185). While no SYNC becomes due nothing is requested. -/
def Obligations.WrittenRecordsMovePost : Prop :=
  ∀ (s : State) (f : Flight) (w : PosterWrite), s.flight = some f → f.requester = .poster w →
    ∃ t, exec (.completionWriteEnd .ok) s = .next t ∧ t.flight = none ∧
      t.cpo.post = (s.cpo.post + 1) % s.completionSize ∧
      t.cpo.phase = (if (s.cpo.post + 1) % s.completionSize = 0 then !s.cpo.phase else s.cpo.phase) ∧
      t.cpo.release = s.cpo.release ∧ t.dev = s.dev ∧ t.lists = s.lists ∧ t.ports = s.ports ∧
      (∀ e, w = .event e → t.cpo.reserved = s.cpo.reserved ∧ t.cpo.queue = s.cpo.queue ∧ t.ringU = s.ringU ∧
        t.ringB = s.ringB) ∧
      ∀ c, w = .completion c →
        (s.dev.state = .resetting → t.cpo.reserved = s.cpo.reserved ∧ t.ringU = s.ringU ∧ t.ringB = s.ringB) ∧
        (s.dev.state = .active ∨ s.dev.state = .paused →
          t.cpo.reserved = s.cpo.reserved - 1 ∧
          (t.ring c.ticket.ring).outstanding = (s.ring c.ticket.ring).outstanding.erase c.ticket.take ∧
          (∀ r, r ≠ c.ticket.ring → t.ring r = s.ring r) ∧
          (∀ y rest, (s.ring c.ticket.ring).syncs = y :: rest →
            ((s.ring c.ticket.ring).outstanding.erase c.ticket.take).head? = some y.ticket.take →
            (∀ z ∈ rest.head?, z.ticket.take ≠ y.ticket.take) →
            t.cpo.queue = s.cpo.queue ++
              [{ ticket := y.ticket, status := .ok, detailA := BitVec.ofNat 32 y.earlier, detailB := 0 }] ∧
              (t.ring c.ticket.ring).syncs = rest) ∧
          ((∀ y ∈ (s.ring c.ticket.ring).syncs.head?,
              ((s.ring c.ticket.ring).outstanding.erase c.ticket.take).head? ≠ some y.ticket.take) →
            t.cpo.queue = s.cpo.queue ∧ (t.ring c.ticket.ring).syncs = (s.ring c.ticket.ring).syncs))

/-- A completion or event burst fails in ACTIVE or PAUSED (R183, R184): the device enters QFAULT with the cause (the
cause field beside it is a free value, log entry 31), post and phase stay, and every waiting request is dropped. In
QFAULT the device record stays; in RESETTING the outcome is discarded (R185). -/
def Obligations.FailedWritesEnterQfault : Prop :=
  ∀ (s : State) (f : Flight) (w : PosterWrite) (a : WriteEnd) (c : PosterCause), s.flight = some f →
    f.requester = .poster w →
    (a = .busError ∧ c = .cwriteError ∨ a = .timeout ∧ c = .cwriteTimeout ∧ s.burstTimeoutUs ≤ f.elapsed) →
    ∃ t, exec (.completionWriteEnd a) s = .next t ∧ t.flight = none ∧ t.cpo.post = s.cpo.post ∧
      t.cpo.release = s.cpo.release ∧ t.cpo.phase = s.cpo.phase ∧
      (s.dev.state = .active ∨ s.dev.state = .paused →
        t.dev = { s.dev with
            state := .qfault, cause := .poster c, causeField := s.dev.openCauseField (.poster c) } ∧
          t.cpo.faultCause = some c ∧
          t.cpo.queue = [] ∧ t.cpo.presented = none ∧ t.irqAsserted = true) ∧
      (s.dev.state = .qfault → t.dev = s.dev ∧ t.cpo.faultCause = s.cpo.faultCause) ∧
      (s.dev.state = .resetting → SameButChoice (withBusFree s) t)

/-- A release write (R181): taken in ACTIVE, PAUSED and QFAULT, and ignored in every other state. A value within what
has been written and not released becomes release; any other is BAD_RELEASE, which takes ACTIVE and PAUSED into QFAULT
with release unchanged (the cause field is a free value, log entry 31), and changes nothing in QFAULT. IRQ_n (R182):
asserted in ACTIVE and PAUSED exactly while INT_ENABLE is set and written entries are not released, in QFAULT always,
and released in every other state. -/
def Obligations.ReleaseWrites : Prop :=
  (∀ (v : Word) (s : State), ∃ t, exec (.cRelease v) s = .next t ∧
    (s.dev.state ≠ .active → s.dev.state ≠ .paused → s.dev.state ≠ .qfault → SameButChoice s t) ∧
    (s.dev.state = .active ∨ s.dev.state = .paused ∨ s.dev.state = .qfault →
      s.cpo.post < s.completionSize → s.cpo.release < s.completionSize → v.toNat < s.completionSize →
      (v.toNat + s.completionSize - s.cpo.release) % s.completionSize ≤
        (s.cpo.post + s.completionSize - s.cpo.release) % s.completionSize →
      SameButChoice { s with cpo := { s.cpo with release := v.toNat } } t) ∧
    (s.completionSize ≤ v.toNat ∨
        (s.cpo.post < s.completionSize ∧ s.cpo.release < s.completionSize ∧
          (s.cpo.post + s.completionSize - s.cpo.release) % s.completionSize <
            (v.toNat + s.completionSize - s.cpo.release) % s.completionSize) →
      (s.dev.state = .active ∨ s.dev.state = .paused →
        t.dev = { s.dev with
            state := .qfault, cause := .poster .badRelease
            causeField := s.dev.openCauseField (.poster .badRelease) } ∧
          t.cpo.release = s.cpo.release ∧ t.cpo.post = s.cpo.post ∧ t.cpo.queue = [] ∧ t.flight = s.flight) ∧
      (s.dev.state = .qfault → SameButChoice s t))) ∧
    ∀ s : State,
      (s.dev.state = .active ∨ s.dev.state = .paused →
        (s.irqAsserted = true ↔ s.cpo.post ≠ s.cpo.release ∧ s.dev.intEnable = true)) ∧
      (s.dev.state = .qfault → s.irqAsserted = true) ∧
      (s.dev.state ≠ .active → s.dev.state ≠ .paused → s.dev.state ≠ .qfault → s.irqAsserted = false)

/-- The law of R177 at every take and every write: no record command lets the reservations exceed the free places, nor
does the end of a write that a reservation, or for an event an unreserved place, backs. -/
def Obligations.ReservationsStayWithinFreePlaces : Prop :=
  (∀ (k : Kind) (s t : State), exec k.command s = .next t ∨ exec .unknownKind s = .next t →
    s.completionsFit → t.completionsFit) ∧
    ∀ (s t : State) (f : Flight) (w : PosterWrite), s.flight = some f → f.requester = .poster w →
      s.dev.state = .active ∨ s.dev.state = .paused → s.completionsFit →
      (∀ e, w = .event e → s.cpo.reserved < s.freePlaces) → (∀ c, w = .completion c → 0 < s.cpo.reserved) →
      exec (.completionWriteEnd .ok) s = .next t → t.completionsFit

/-! ## Bursts -/

/-- The next burst of a data operation with bytes left (R71, R72): 1 to 256 bytes within the operation, inside one block
of 256 aligned addresses, at the host addresses of its staged bytes one after another. -/
def Obligations.BurstsStayInsideAlignedBlocks : Prop :=
  ∀ op : Operation, 0 < op.rowBytes → op.rowBytes ≤ op.stride → op.done < op.total →
    1 ≤ op.burstLength ∧ op.burstLength ≤ 256 ∧ op.done + op.burstLength ≤ op.total ∧
      op.hostAddress op.done / 256 = (op.hostAddress op.done + op.burstLength - 1) / 256 ∧
      ∀ j, j < op.burstLength → op.hostAddress (op.done + j) = op.hostAddress op.done + j

/-- With the bus free and no write of CPo presented, the arbiter issues the setup read in SETUP, at the setup address
that the entry to SETUP found (R188, R189), in ACTIVE and PAUSED the record read of ring U before that of ring B (R161),
and otherwise, in ACTIVE, PAUSED and QFAULT, the burst of the first LOADED channel from the next-channel pointer (R68,
R70), a write-back's with its staged bytes one after another (R72); in INIT, HALTED and RESETTING nothing (R79). -/
def Obligations.ArbiterOrder : Prop :=
  ∀ s : State, s.flight = none → s.cpo.presented = none →
    (∀ a : Addr, s.dev.state = .setup → s.dev.setupRead = some a → ∃ t, exec .burstIssue s = .next t ∧ SameButChoice
      { s with
        dev := { s.dev with setupRead := none }
        flight := some {
          requester := .setup, write := false, address := a.toNat, length := 64, data := []
          elapsed := 0 } } t) ∧
    (∀ r : RingId, s.dev.state = .active ∨ s.dev.state = .paused → (s.ring r).state = .running →
      (s.ring r).holder = none → (s.ring r).head ≠ (s.ring r).tail →
      (r = .b → s.ringU.state ≠ .running ∨ s.ringU.holder.isSome ∨ s.ringU.head = s.ringU.tail) →
      ∃ t, exec .burstIssue s = .next t ∧ SameButChoice
        { s with flight := some {
            requester := .ring r, write := false, address := s.ringBase r + 64 * (s.ring r).head, length := 64
            data := [], elapsed := 0 } } t) ∧
    (∀ (k : Fin 4) (op : Operation), s.dev.state = .active ∨ s.dev.state = .paused ∨ s.dev.state = .qfault →
      (∀ r, (s.ring r).state ≠ .running ∨ (s.ring r).holder.isSome ∨ (s.ring r).head = (s.ring r).tail ∨
        s.dev.state = .qfault) →
      s.channel (s.rrNext + k) = .loaded op → (∀ j, j < k → ∀ op', s.channel (s.rrNext + j) ≠ .loaded op') →
      ∃ t, exec .burstIssue s = .next t ∧ SameButChoice
        { s.setChannel (s.rrNext + k) (.inFlight op) with
          rrNext := s.rrNext + k + 1
          flight := some {
            requester := .channel (s.rrNext + k), write := op.write, address := op.hostAddress op.done
            length := op.burstLength, elapsed := 0
            data :=
              if op.write then (List.range op.burstLength).map fun j => stagedByte s.staging op.slots (op.done + j)
              else [] } } t) ∧
    (s.dev.state = .init ∨ s.dev.state = .halted ∨ s.dev.state = .resetting →
      ∃ t, exec .burstIssue s = .next t ∧ SameButChoice s t)

/-- A fetch burst ends OK (R70, R72, R20): its bytes stand in the staged positions they correspond to, and every other
staged byte, of its own slots and of the others, stays; with bytes left the channel is LOADED with the next burst; after
the last, a pixel fetch's FETCHING entry is READY, and with nothing waiting the channel is FREE. -/
def Obligations.FetchBurstsStageTheirBytes : Prop :=
  ∀ (s : State) (f : Flight) (c : Fin 4) (op : Operation) (data : List Byte), s.flight = some f →
    f.requester = .channel c → s.channel c = .inFlight op → op.write = false → f.write = false →
    f.length = op.burstLength → data.length = op.burstLength → s.staging.wf = true → op.slots.Nodup →
    op.done + op.burstLength ≤ 2048 * op.slots.length →
    ∃ t, exec (.fetchBurstEnd (.ok data)) s = .next t ∧ t.flight = none ∧
      (∀ j, j < data.length → stagedByte t.staging op.slots (op.done + j) = data.getD j 0) ∧
      (∀ k, k < 2048 * op.slots.length → k < op.done ∨ op.done + op.burstLength ≤ k →
        stagedByte t.staging op.slots k = stagedByte s.staging op.slots k) ∧
      (∀ i : Fin 24, i ∉ op.slots → ∀ o, o < 2048 →
        t.staging.read (2048 * i.val + o) = s.staging.read (2048 * i.val + o)) ∧
      (op.done + op.burstLength < op.total →
        t.channel c = .loaded { op with done := op.done + op.burstLength } ∧ t.lists = s.lists ∧ t.slots = s.slots) ∧
      (op.total ≤ op.done + op.burstLength → ∀ p r n, op.owner = .entry p r n →
        (∀ e ∈ s.list p, e.isOf r n = true → e.state = .fetching → { e with state := .ready } ∈ t.list p) ∧
        (s.waitQueue = [] → t.channel c = .free) ∧ t.slots = s.slots ∧ t.cpo.queue = s.cpo.queue)

/-- A burst of an entry's operation ends in bus error or timeout (R74, R21): the channel is given up, the entry leaves
its list with the status of its kind and detail a the row in which the burst began, and its slots are FREE. -/
def Obligations.FailedBurstsEndTheirEntries : Prop :=
  ∀ (s : State) (f : Flight) (c : Fin 4) (op : Operation) (p : PanelId) (r : RingId) (n : Word) (e : Entry)
      (i : Instr) (x : Status), s.flight = some f → f.requester = .channel c → s.channel c = .inFlight op →
    op.owner = .entry p r n → findEntry p r n s = some e → s.dev.state = .active ∨ s.dev.state = .paused →
    (op.write = false ∧ i = .fetchBurstEnd .busError ∧ x = .fetchError ∨
      op.write = false ∧ i = .fetchBurstEnd .timeout ∧ x = .fetchTimeout ∧ s.burstTimeoutUs ≤ f.elapsed ∨
      op.write = true ∧ i = .writeBackBurstEnd .busError ∧ x = .writeError ∨
      op.write = true ∧ i = .writeBackBurstEnd .timeout ∧ x = .writeTimeout ∧ s.burstTimeoutUs ≤ f.elapsed) →
    ∃ t, exec i s = .next t ∧ t.flight = none ∧
      t.cpo.queue = s.cpo.queue ++ [{
        ticket := e.ticket, status := x, detailA := BitVec.ofNat 32 (op.done / op.rowBytes), detailB := 0 }] ∧
      (∀ e' ∈ t.list p, e'.isOf r n = false) ∧ (∀ q, q ≠ p → (t.list q).length = (s.list q).length) ∧
      (∀ k, s.slot k = .owned (.entry p r n) → t.slot k = .free) ∧
      (∀ k, s.slot k ≠ .owned (.entry p r n) → t.slot k = s.slot k) ∧ (s.waitQueue = [] → t.channel c = .free) ∧
      t.staging = s.staging ∧ t.regions = s.regions ∧ t.dev = s.dev

/-- A glyph load ends (R134): OK, its staged bytes are the set's glyphs and it is READY; failed, it is EMPTY, with
detail a the glyph in whose data the burst began. Either way its completion is requested and its slots are FREE. -/
def Obligations.GlyphLoadsEnd : Prop :=
  ∀ (s : State) (f : Flight) (c : Fin 4) (op : Operation) (g : Fin 4) (w h sep : Nat) (k : Ticket)
      (l : List (Fin 24)), s.flight = some f → f.requester = .channel c → s.channel c = .inFlight op →
    op.owner = .glyph g → op.write = false → f.write = false → s.glyph g = .loading w h sep k l →
    s.dev.state = .active ∨ s.dev.state = .paused →
    (∀ data : List Byte, data.length = f.length → op.total ≤ op.done + op.burstLength →
      ∃ t, exec (.fetchBurstEnd (.ok data)) s = .next t ∧
        t.glyph g = .ready w h sep ((List.range op.total).map fun j => stagedByte t.staging op.slots j) ∧
        t.cpo.queue = s.cpo.queue ++ [{
          ticket := k, status := .ok, detailA := BitVec.ofNat 32 op.total, detailB := 0 }] ∧
        (∀ i, s.slot i = .owned (.glyph g) → t.slot i = .free) ∧ ∀ g', g' ≠ g → t.glyph g' = s.glyph g') ∧
    ∀ (a : ReadEnd) (x : Status), a = .busError ∧ x = .fetchError ∨
        a = .timeout ∧ x = .fetchTimeout ∧ s.burstTimeoutUs ≤ f.elapsed →
      ∃ t, exec (.fetchBurstEnd a) s = .next t ∧ t.glyph g = .empty ∧
        t.cpo.queue = s.cpo.queue ++ [{
          ticket := k, status := x, detailA := BitVec.ofNat 32 (op.done / (ceilDiv w 8 * h)), detailB := 0 }] ∧
        (∀ i, s.slot i = .owned (.glyph g) → t.slot i = .free) ∧ ∀ g', g' ≠ g → t.glyph g' = s.glyph g'

/-- The last burst of a CAPTURE's write-back ends OK (R74, R21): the entry leaves with OK, its commit frame and its
cost, and its slots are FREE; before the last, the channel goes on to the next burst. -/
def Obligations.WriteBacksEnd : Prop :=
  ∀ (s : State) (f : Flight) (c : Fin 4) (op : Operation) (p : PanelId) (r : RingId) (n : Word) (e : Entry),
    s.flight = some f → f.requester = .channel c → s.channel c = .inFlight op → op.write = true →
    op.owner = .entry p r n → findEntry p r n s = some e → s.dev.state = .active ∨ s.dev.state = .paused →
    ∃ t, exec (.writeBackBurstEnd .ok) s = .next t ∧ t.flight = none ∧ t.staging = s.staging ∧
      (op.done + op.burstLength < op.total →
        t.channel c = .loaded { op with done := op.done + op.burstLength } ∧ t.lists = s.lists ∧ t.slots = s.slots ∧
          t.cpo.queue = s.cpo.queue) ∧
      (op.total ≤ op.done + op.burstLength →
        t.cpo.queue = s.cpo.queue ++ [{
          ticket := e.ticket, status := .ok, detailA := e.commitFrame.getD 0, detailB := BitVec.ofNat 32 e.cost }] ∧
        (∀ e' ∈ t.list p, e'.isOf r n = false) ∧ ∀ k, s.slot k = .owned (.entry p r n) → t.slot k = .free)

/-- An orphan burst ends (R76): the bus is free and every RECLAIM slot is FREE, a fetch that ends OK has written its
bytes into the staged positions they correspond to and every other staged byte stays, any other end writes nothing, and
nobody is answered. -/
def Obligations.OrphanBurstsFreeTheirSlots : Prop :=
  ∀ (s : State) (f : Flight) (op : Operation) (a : ReadEnd), s.flight = some f → f.requester = .orphan op →
    (a = .busError ∨ a = .timeout ∧ s.burstTimeoutUs ≤ f.elapsed ∨
      ∃ data : List Byte, a = .ok data ∧ data.length = if f.write then 0 else f.length) →
    ∃ t, exec (.orphanBurstEnd a) s = .next t ∧ t.flight = none ∧
      (∀ i, s.slot i = .reclaim → t.slot i = .free) ∧ (∀ i, s.slot i ≠ .reclaim → t.slot i = s.slot i) ∧
      (op.write = true ∨ a = .busError ∨ a = .timeout → t.staging = s.staging) ∧
      (∀ data : List Byte, a = .ok data → op.write = false → f.write = false → s.staging.wf = true → op.slots.Nodup →
        op.done + data.length ≤ 2048 * op.slots.length →
        (∀ j, j < data.length → stagedByte t.staging op.slots (op.done + j) = data.getD j 0) ∧
        (∀ k, k < 2048 * op.slots.length → k < op.done ∨ op.done + data.length ≤ k →
          stagedByte t.staging op.slots k = stagedByte s.staging op.slots k) ∧
        ∀ i : Fin 24, i ∉ op.slots → ∀ o, o < 2048 →
          t.staging.read (2048 * i.val + o) = s.staging.read (2048 * i.val + o)) ∧
      t.cpo.queue = s.cpo.queue ∧ t.lists = s.lists ∧
      t.glyphs = s.glyphs ∧ t.channels = s.channels ∧ t.waitQueue = s.waitQueue ∧
      (∀ r n, (s.ring r).state = .stalled n → n ≤ t.freeSlots.length → (t.ring r).state = .running) ∧
      ∀ r n, (s.ring r).state = .stalled n → t.freeSlots.length < n → (t.ring r).state = .stalled n

/-- A burst whose timeout is due ends with timeout at its requester, as its own end command ends it, and the bus is
free; before that time nothing happens (log entry 6); an answer after the end changes nothing (R73, R75). -/
def Obligations.TimeoutsAndLateAnswers : Prop :=
  (∀ s : State, exec .lateAnswer s = .next s) ∧
    ∀ (s : State) (f : Flight), s.flight = some f →
      (f.elapsed < s.burstTimeoutUs → exec .burstTimeout s = .next s) ∧
      (s.burstTimeoutUs ≤ f.elapsed →
        (∀ r, f.requester = .ring r → exec .burstTimeout s = exec (.ringReadEnd .timeout) s ∧
          ∃ t, exec .burstTimeout s = .next t ∧ t.flight = none ∧
            (s.dev.state = .active → (s.ring r).state = .running → (s.ring r).head ≠ (s.ring r).tail →
              (t.ring r).state = .fault ∧ t.ringFaultEvent r = some .readTimeout)) ∧
        (∀ w, f.requester = .poster w → exec .burstTimeout s = exec (.completionWriteEnd .timeout) s) ∧
        (∀ op, f.requester = .orphan op → exec .burstTimeout s = exec (.orphanBurstEnd .timeout) s) ∧
        ∀ c op, f.requester = .channel c → s.channel c = .inFlight op →
          exec .burstTimeout s =
            if op.write then exec (.writeBackBurstEnd .timeout) s else exec (.fetchBurstEnd .timeout) s)

/-! ## Frames and pictures -/

/-- A boundary of its own follows a frame end in RUNNING and FROZEN (R42 to R45, R97, R100, R101, R103): the frame is
numbered, the shade phase advances, the pending window is written, the phase line and the balance move, and the
invisible areas are the rects of the zones whose group is off and of the bindings whose tally is EXPIRED and whose
expiry group is off, none at a FROZEN boundary. A FROZEN boundary changes nothing else. -/
def Obligations.BoundariesBeginFrames : Prop :=
  ∀ (p : PanelId) (s : State) (c0 c : PanelConfig), (s.port p).frame = none →
    (s.port p).state = .running ∨ (s.port p).state = .frozen → (s.port p).config = some c0 →
    windowApplied (s.port p) = some c →
    ∃ t, exec (.frameBoundary p) s = .next t ∧
      (∃ areas, t.port p = portAtBoundary (s.port p) c .ordinary ((s.port p).frameNumber + 1)
          (((s.port p).shadePhase + 1) % (2 ^ c.depth - 1)) areas ∧
        ((s.port p).state = .frozen → areas = []) ∧
        ((s.port p).state = .running → ∀ q, q ∈ areas ↔
          (∃ z v, s.zone z = some v ∧ v.panel = p ∧ v.rect = q ∧ groupDark s v.group) ∨
            ∃ k i b g d, s.binding k i = some b ∧ b.panel = p ∧ b.rect = q ∧ b.expiryGroup = some g ∧
              (s.tally k).defn = some d ∧ d.run = .expired ∧ groupDark s g)) ∧
      (∀ q, q ≠ p → t.port q = s.port q ∧ t.region q = s.region q ∧ (t.list q).length = (s.list q).length) ∧
      t.dev = s.dev ∧ t.tb = s.tb ∧ t.tallies = s.tallies ∧ t.zones = s.zones ∧ t.glyphs = s.glyphs ∧
      t.cpo.queue = s.cpo.queue ∧ t.flight = s.flight ∧
      ((s.port p).state = .frozen → SameButChoice (s.setPort p (t.port p)) t)

/-- The walk of a RUNNING boundary (R49 to R51): the list keeps its entries in order; a READY entry commits exactly when
its rect meets that of no earlier entry left uncommitted and it is the first commit or fits the budget; so an entry
commits only after every earlier entry it meets, the bytes committed stay within the budget but for one entry alone, and
the first READY entry behind committed ones alone commits. -/
def Obligations.WalksCommitInListOrderWithinTheBudget : Prop :=
  ∀ (p : PanelId) (s : State) (c : PanelConfig), (s.port p).frame = none → (s.port p).state = .running →
    (s.port p).config = some c →
    ∃ t, exec (.frameBoundary p) s = .next t ∧ (t.list p).length = (s.list p).length ∧
      (∀ (i : Nat) (e e' : Entry), (s.list p)[i]? = some e → (t.list p)[i]? = some e' →
        e' = e ∨ e.state = .queued ∧ e' = { e with state := .fetching } ∨
          e.state = .ready ∧ e' = match e.kind with
            | .update => { e with
                state := .committed, slots := none, commitFrame := some ((s.port p).frameNumber + 1) }
            | .fill => { e with state := .committed, commitFrame := some ((s.port p).frameNumber + 1) }
            | .capture => { e with state := .writing, commitFrame := some ((s.port p).frameNumber + 1) }) ∧
      (∀ (i : Nat) (e : Entry), (s.list p)[i]? = some e → e.state = .ready →
        (committedNow (s.list p) (t.list p) i = true ↔
          (∀ (j : Nat) (f : Entry), j < i → (t.list p)[j]? = some f → f.state.blocks = true → e.rect.intersects f.rect = false) ∧
            (bytesBefore (s.list p) (t.list p) i = 0 ∨
              bytesBefore (s.list p) (t.list p) i + e.cost ≤ c.blankRows * 2048))) ∧
      (∀ (i j : Nat) (e f f' : Entry), i < j → (s.list p)[j]? = some e → committedNow (s.list p) (t.list p) j = true →
        (s.list p)[i]? = some f → e.rect.intersects f.rect = true → (t.list p)[i]? = some f' →
        f'.state = .committed ∨ f'.state = .writing) ∧
      (bytesBefore (s.list p) (t.list p) (s.list p).length ≤ c.blankRows * 2048 ∨
        ∃ (i : Nat) (e : Entry), (s.list p)[i]? = some e ∧ committedNow (s.list p) (t.list p) i = true ∧
          bytesBefore (s.list p) (t.list p) (s.list p).length = e.cost) ∧
      ∀ (i : Nat) (e : Entry), (s.list p)[i]? = some e → e.state = .ready →
        (∀ (j : Nat) (f : Entry), j < i → (s.list p)[j]? = some f → f.state = .committed ∨ f.state = .writing) →
        committedNow (s.list p) (t.list p) i = true

/-- What a RUNNING boundary draws (R42, R46, R52 to R54, R142, R143). A lone READY FILL gives every pixel of its rect
its shade; a lone READY UPDATE gives each pixel its bits of the staged bytes and frees its slots; a lone READY CAPTURE
leaves the region, stages its pixels, and asks for its write-back (granted at once when a channel is FREE: log entry
15). When several entries commit, each draws over what the ones before it in the list have drawn, the first over the
rendered bindings, each CAPTURE stages its pixels as they stand at its turn, and the write-backs are asked for in list
order (R49, R55). A dirty binding is drawn cell by cell, each digit with its glyph, leading zeros blanked as its
blanking says, each separator with the colon or the point, and its mark is cleared. Pixels outside the rects stay. -/
def Obligations.BoundariesDrawCommitsAndBindings : Prop :=
  ∀ (p : PanelId) (s : State) (c : PanelConfig), (s.port p).frame = none → (s.port p).state = .running →
    (s.port p).config = some c → c.depth = 1 ∨ c.depth = 2 ∨ c.depth = 4 → s.memoriesCanonical →
    (∀ e, s.list p = [e] → e.state = .ready → e.rect.x + e.rect.w ≤ 512 →
      (∀ k i b, s.binding k i = some b → b.panel = p → b.dirty = false) →
      ∃ t, exec (.frameBoundary p) s = .next t ∧
        (∀ x y, x < 512 → e.rect.covers x y = false → (t.region p).shade x y = (s.region p).shade x y) ∧
        (∀ v, e.kind = .fill → e.shade = some v → v < 256 →
          t.list p = [{ e with state := .committed, commitFrame := some ((s.port p).frameNumber + 1) }] ∧
            ∀ x y, e.rect.covers x y = true → (t.region p).shade x y = v) ∧
        (∀ l, e.kind = .update → e.slots = some l → e.cost = (e.rect.w * c.depth + 7) / 8 * e.rect.h →
          (∀ i, s.slot i = .owned (.entry p e.ticket.ring e.ticket.take) → t.slot i = .free) ∧
            ∀ i j, i < e.rect.w → j < e.rect.h → (t.region p).shade (e.rect.x + i) (e.rect.y + j) =
              (stagedByte s.staging l (j * ((e.rect.w * c.depth + 7) / 8) + i * c.depth / 8)).toNat /
                2 ^ (8 - i * c.depth % 8 - c.depth) % 2 ^ c.depth) ∧
        (∀ l a d, e.kind = .capture → e.slots = some l → l.Nodup → e.address = some a → e.stride = some d →
          e.cost = (e.rect.w * c.depth + 7) / 8 * e.rect.h → e.cost ≤ 2048 * l.length → 1 ≤ e.rect.h →
          t.region p = s.region p ∧
            (∀ i j, i < e.rect.w → j < e.rect.h →
              (stagedByte t.staging l (j * ((e.rect.w * c.depth + 7) / 8) + i * c.depth / 8)).toNat /
                2 ^ (8 - i * c.depth % 8 - c.depth) % 2 ^ c.depth =
                  (s.region p).shade (e.rect.x + i) (e.rect.y + j) % 2 ^ c.depth) ∧
            Carried {
              owner := .entry p e.ticket.ring e.ticket.take, write := true, address := a, stride := d
              rowBytes := (e.rect.w * c.depth + 7) / 8, rows := e.rect.h, slots := l, done := 0 } s t)) ∧
    ((∀ e ∈ s.list p, e.state = .ready → e.drawable c.depth) → slotsApart (s.list p) →
      ∃ t u, exec (.frameBoundary p) s = .next t ∧ exec (.frameBoundary p) (s.setList p []) = .next u ∧
        (∀ x y, x < 512 → (t.region p).shade x y =
          shadeAfterAll s.staging c.depth (commitsBefore (s.list p) (t.list p) (s.list p).length) x y
            ((u.region p).shade x y)) ∧
        (∀ (n : Nat) (e : Entry), (s.list p)[n]? = some e → committedNow (s.list p) (t.list p) n = true →
          e.kind = .capture → ∀ i j, i < e.rect.w → j < e.rect.h →
            stagedPixel t.staging (e.slots.getD []) e.rect.w c.depth i j =
              shadeAfterAll s.staging c.depth (commitsBefore (s.list p) (t.list p) n) (e.rect.x + i) (e.rect.y + j)
                ((u.region p).shade (e.rect.x + i) (e.rect.y + j)) % 2 ^ c.depth) ∧
        ((∀ k, s.channel k ≠ .free) → t.waitQueue = s.waitQueue ++
          ((commitsBefore (s.list p) (t.list p) (s.list p).length).filter fun e => e.kind = .capture).map
            (writeBackOf p c.depth))) ∧
    ∀ (k : TallyId) (i : Fin 2) (b : Binding) (d : TallyDef) (w h sep n : Nat) (data : List Byte), s.list p = [] →
      s.binding k i = some b → b.panel = p → b.dirty = true →
      s.glyph b.glyphSet = .ready w h sep data → (s.tally k).defn = some d → n = d.value.length → w ≤ b.pitch →
      b.rect.w = n * b.pitch + separatorsLeftOf b n 0 * sep → b.rect.h = h → b.foreground < 256 → b.background < 256 →
      (∀ k' i' b', s.binding k' i' = some b' → b'.panel = p → b'.dirty = true →
        b'.rect.x + b'.rect.w ≤ 512 ∧ (k' = k ∧ i' = i ∨ b'.rect.intersects b.rect = false)) →
      ∃ t, exec (.frameBoundary p) s = .next t ∧ t.binding k i = some { b with dirty := false } ∧
        (∀ x y, x < 512 →
          (∀ k' i' b', s.binding k' i' = some b' → b'.panel = p → b'.dirty = true → b'.rect.covers x y = false) →
          (t.region p).shade x y = (s.region p).shade x y) ∧
        (∀ m col row, m < n → col < b.pitch → row < h →
          ∀ g : Nat, ((n ≤ m + b.blankLeading ∧ ∀ l, m ≤ l → d.value.getD l 0 = 0) → g = 10) →
            (¬(n ≤ m + b.blankLeading ∧ ∀ l, m ≤ l → d.value.getD l 0 = 0) → g = d.value.getD m 0) →
            (t.region p).shade (b.rect.x + digitColumn b n sep m + col) (b.rect.y + row) =
              glyphShade b w h data g col row) ∧
        ∀ m col row, m + 1 < n → col < sep → row < h →
          ∀ g : Nat, (b.separators.getD m .none = .colon ∧ g = 11 ∨ b.separators.getD m .none = .point ∧ g = 12) →
            (t.region p).shade (b.rect.x + digitColumn b n sep m - sep + col) (b.rect.y + row) =
              glyphShade b w h data g col row

/-- A row transfer, once its row time has elapsed (R98, R100, R101, R103): the next row of the window goes out, pulse i
with column i lanes + l on lane l and unused lanes low; a column is lit in an ordinary frame when the shade sequence
lights its shade and no invisible area holds it; in ROWS mode the phase line toggles after every kth row but the last.
Before that time nothing happens. The row goes out whole at its row time's end (log entries 6 and 18). The output levels
(R99): idle in OFF and FAULTED; blanked and quiet with the first row's address and the start phase in the blank
interval; and from then to the last row's end the pulses, values and address of the row being transferred. -/
def Obligations.RowTransfersSendLitPixels : Prop :=
  (∀ (p : PanelId) (s : State) (c : PanelConfig) (f : Frame), (s.port p).config = some c →
    (s.port p).frame = some f →
    (f.elapsed < (c.blankRows + f.rowsDone + 1) * c.rowTime → exec (.rowTransfer p) s = .next s) ∧
    (f.rowsDone ≤ f.last - f.first →
      ∃ pulses : List (List Bool), pulses.length = c.width / c.lanes ∧
        (∀ i l, i < c.width / c.lanes → l < 4 →
          ((pulses.getD i ([] : List Bool)).getD l false = true ↔
            l < c.lanes ∧ f.kind = .ordinary ∧
              ((s.port p).shadePhase + c.spreadA * (f.first + f.rowsDone) + c.spreadB * (i * c.lanes + l)) %
                  (2 ^ c.depth - 1) < (s.region p).shade (i * c.lanes + l) (f.first + f.rowsDone) ∧
              ∀ q ∈ f.invisible, q.covers (i * c.lanes + l) (f.first + f.rowsDone) = false)) ∧
        (∀ x ∈ pulses, x.length = 4) ∧
        ((s.port p).state.runsFrames = true → c.blankRows * c.rowTime ≤ f.elapsed →
          (s.port p).levels (s.region p) = {
            blank := false, clock := c.width / c.lanes, latch := 1, lanes := pulses, row := f.first + f.rowsDone
            phase := (s.port p).phaseLine }) ∧
        ((c.blankRows + f.rowsDone + 1) * c.rowTime ≤ f.elapsed →
          ∃ t, exec (.rowTransfer p) s = .next t ∧
            t = s.setPort p { s.port p with
              lastRow := some { row := f.first + f.rowsDone, pulses := pulses }
              frame := some { f with rowsDone := f.rowsDone + 1 }
              phaseLine :=
                if c.driveMode = .rows ∧ (∃ k, c.driveRows = some k ∧ (f.rowsDone + 1) % k = 0) ∧
                    f.rowsDone < f.last - f.first then
                  match (s.port p).phaseLine with
                  | .a => .b
                  | .b => .a
                else (s.port p).phaseLine })) ∧
    ((s.port p).state.runsFrames = true → f.elapsed < c.blankRows * c.rowTime →
      (s.port p).levels (s.region p) = {
        blank := true, clock := 0, latch := 0, lanes := [], row := f.first, phase := f.startPhase })) ∧
    ∀ (p : PanelId) (s : State), (s.port p).state = .off ∨ (s.port p).state = .faulted →
      (s.port p).levels (s.region p) = { blank := true, clock := 0, latch := 0, lanes := [], row := 0, phase := .a }

/-- A frame end, once every row of the window has been transferred (R57, R83, R86, R87): each COMMITTED entry that meets
the window leaves SHOWN, in list order; then a STARTING panel is RUNNING and its waiting starts complete OK, a DRAINING
panel is OFF with its waiting stops OK at balance 0 and begins a balancing frame at balance 1, and another goes on. -/
def Obligations.FrameEndsShowAndMoveThePanel : Prop :=
  ∀ (p : PanelId) (s : State) (f : Frame), (s.port p).frame = some f → f.last - f.first < f.rowsDone →
    recordsDistinct (s.list p) →
    ∃ t, exec (.frameEnd p) s = .next t ∧
      t.list p = (s.list p).filter (fun e =>
        !decide (e.state = .committed ∧ e.rect.y ≤ f.last ∧ f.first < e.rect.y + e.rect.h)) ∧
      (s.writing = true → t.cpo.queue = s.cpo.queue ++
        (s.list p).filterMap (shownCompletion f.first f.last (s.port p).frameNumber) ++
        (match (s.port p).state with
          | .starting => completionsOf (s.port p).waitingStarts .ok 0 0
          | .draining => if (s.port p).balance then [] else completionsOf (s.port p).waitingStops .ok 0 0
          | .off => []
          | .running => []
          | .frozen => []
          | .faulted => [])) ∧
      ((s.port p).state = .starting →
        t.port p = { s.port p with frame := none, state := .running, waitingStarts := [] }) ∧
      ((s.port p).state = .running ∨ (s.port p).state = .frozen → t.port p = { s.port p with frame := none }) ∧
      ((s.port p).state = .draining → (s.port p).balance = false → t.port p = portOff (s.port p)) ∧
      (∀ c, (s.port p).state = .draining → (s.port p).balance = true → windowApplied (s.port p) = some c →
        t.port p = portAtBoundary (s.port p) c .balancing ((s.port p).frameNumber + 1)
          (((s.port p).shadePhase + 1) % (2 ^ c.depth - 1)) []) ∧
      (∀ q, q ≠ p → t.port q = s.port q ∧ t.list q = s.list q) ∧ t.regions = s.regions ∧ t.slots = s.slots ∧
      t.dev = s.dev ∧ t.tallies = s.tallies ∧ t.bindings = s.bindings

/-- No command changes a panel's region but a boundary of that panel while it is RUNNING, a PANEL_CONFIG while it is OFF
and the clearing of INIT (R2, R42); and none changes a staged byte but the end of a fetch burst, orphan or not, and a
boundary (R66, R72). -/
def Obligations.PicturesChangeOnlyWhereTheSpecSays : Prop :=
  ∀ (i : Instr) (s t : State), exec i s = .next t →
    (∀ p, t.region p = s.region p ∨ i = .initClearEnd ∨ i = .frameBoundary p ∧ (s.port p).state = .running ∨
      i = .panelConfig ∧ (s.port p).state = .off) ∧
    (t.staging = s.staging ∨ (∃ a, i = .fetchBurstEnd a ∨ i = .orphanBurstEnd a) ∨ ∃ p, i = .frameBoundary p)

/-! ## Panel commands -/

/-- A held PANEL_CONFIG (R12 to R14): refused for a panel above 3, a panel not OFF, the first field out of range, and a
panel that bindings or zones name; otherwise the record is written whole, a pending window discarded, the region
cleared, and OK requested. -/
def Obligations.PanelConfigRecords : Prop :=
  ∀ (s : State) (r : RingId) (record : List Byte), Held .panelConfig s r record →
    (3 < byteAt record 16 →
      ∃ t, exec .panelConfig s = .next t ∧ SameButChoice (afterAnswer s r record .refusedParam 1 0) t) ∧
    ∀ p : PanelId, byteAt record 16 = p.val →
      ((s.port p).state ≠ .off →
        ∃ t, exec .panelConfig s = .next t ∧ SameButChoice (afterAnswer s r record .refusedState 0 0) t) ∧
      ((s.port p).state = .off →
        (∀ n, 2 ≤ n → n ≤ 13 → ¬configFieldPasses record n →
          (∀ m, 2 ≤ m → m < n → configFieldPasses record m) →
          ∃ t, exec .panelConfig s = .next t ∧ SameButChoice (afterAnswer s r record .refusedParam n 0) t) ∧
        ((∀ n, 2 ≤ n → n ≤ 13 → configFieldPasses record n) →
          ∀ bs zs, bs = (List.finRange 32).countP (fun i => s.bindings[i].any fun b => b.panel == p) →
            zs = (List.finRange 16).countP (fun z => (s.zone z).any fun v => v.panel == p) →
            (bs + zs ≠ 0 →
              ∃ t, exec .panelConfig s = .next t ∧ SameButChoice (afterAnswer s r record .inUse bs zs) t) ∧
            (bs + zs = 0 →
              ∃ t, exec .panelConfig s = .next t ∧ (∀ x y, (t.region p).shade x y = 0) ∧
                (∀ q, q ≠ p → t.region q = s.region q) ∧
                SameButChoice
                  { (afterAnswer s r record .ok 0 0).setPort p { s.port p with
                      pendingWindow := none
                      config := some {
                        width := field16 record 18, height := field16 record 20, depth := byteAt record 22
                        lanes := byteAt record 23, rowTime := field16 record 24, blankRows := byteAt record 26
                        windowFirst := field16 record 28, windowLast := field16 record 30
                        driveMode := if byteAt record 32 = 0 then .none else if byteAt record 32 = 1 then .frame else .rows
                        driveRows := if byteAt record 32 = 2 then some (byteAt record 33) else none
                        spreadA := byteAt record 34, spreadB := byteAt record 35 } } with
                    regions := t.regions } t)))

/-- A held PANEL_START (R81, R82, R90): refused for a panel above 3, unconfigured, DRAINING, or FAULTED with the line
asserted; OK at once in RUNNING and FROZEN; joined to the waiting starts in STARTING; and from OFF or FAULTED with the
line released the lead-in frame begins at once, with frame number and shade phase 0. From OFF with the line asserted the
fault is taken before that boundary, and every waiting start completes PANEL_FAULT. Detail b of REFUSED_PARAM is log
entry 16's choice. -/
def Obligations.PanelStartRecords : Prop :=
  ∀ (s : State) (r : RingId) (record : List Byte), Held .panelStart s r record →
    (3 < byteAt record 16 →
      ∃ t, exec .panelStart s = .next t ∧ SameButChoice (afterAnswer s r record .refusedParam 1 0) t) ∧
    ∀ p : PanelId, byteAt record 16 = p.val →
      ((s.port p).state = .off ∧ (s.port p).config = none ∨ (s.port p).state = .draining ∨
          (s.port p).state = .faulted ∧ (s.port p).faultLine = true →
        ∃ t, exec .panelStart s = .next t ∧ SameButChoice (afterAnswer s r record .refusedState 0 0) t) ∧
      ((s.port p).state = .running ∨ (s.port p).state = .frozen →
        ∃ t, exec .panelStart s = .next t ∧ SameButChoice (afterAnswer s r record .ok 0 0) t) ∧
      ((s.port p).state = .starting →
        ∃ t, exec .panelStart s = .next t ∧ SameButChoice ((afterTake s r).setPort p { s.port p with
          waitingStarts := (s.port p).waitingStarts ++ [nextTicket s r record] }) t) ∧
      ∀ c, windowApplied (s.port p) = some c →
        ((s.port p).state = .off ∨ (s.port p).state = .faulted → (s.port p).faultLine = false →
          ∃ t, exec .panelStart s = .next t ∧ SameButChoice ((afterTake s r).setPort p
            (portAtBoundary { s.port p with
              state := .starting, waitingStarts := (s.port p).waitingStarts ++ [nextTicket s r record] }
              c .leadIn 0 0 [])) t) ∧
        ((s.port p).state = .off → (s.port p).faultLine = true → recordsDistinct (s.list p) →
          ∃ t, exec .panelStart s = .next t ∧
            t.port p = { s.port p with
              state := .faulted, frameNumber := 0, shadePhase := 0, frame := none, phaseLine := .a
              config := some c, pendingWindow := none, waitingStarts := [], waitingStops := [] } ∧
            t.list p = (s.list p).filter (fun e => e.state = .writing) ∧
            t.cpo.queue = s.cpo.queue ++ (s.list p).filterMap (flushCompletion .panelFault 0) ++
              completionsOf ((s.port p).waitingStarts ++ [nextTicket s r record]) .panelFault 0 0 ++
              completionsOf (s.port p).waitingStops .panelFault 0 0 ∧
            t.panelFaultEvent p = some ((s.panelFaultEvent p).getD 0) ∧
            (∀ q, q ≠ p → t.port q = s.port q) ∧ t.regions = s.regions ∧ t.dev = s.dev)

/-- A held PANEL_STOP (R84 to R87): refused for a panel above 3 and for FAULTED with the line asserted; OK at once in
OFF; joined to the waiting stops in DRAINING. From STARTING, RUNNING and FROZEN the list is flushed with PANEL_STOPPED
and the waiting starts complete PANEL_STOPPED; with a frame in progress the panel then drains. With none, and from
FAULTED with the line released, the end-of-drain check is made at once: OFF with the waiting stops OK at balance 0, a
balancing frame at balance 1. The flush deals with the transfers and slots of the uncommitted entries as R37 says (where
no two operations under way have one owner, R69). Detail b of REFUSED_PARAM is log entry 16's choice. -/
def Obligations.PanelStopRecords : Prop :=
  ∀ (s : State) (r : RingId) (record : List Byte), Held .panelStop s r record →
    (3 < byteAt record 16 →
      ∃ t, exec .panelStop s = .next t ∧ SameButChoice (afterAnswer s r record .refusedParam 1 0) t) ∧
    ∀ p : PanelId, byteAt record 16 = p.val →
      ((s.port p).state = .off →
        ∃ t, exec .panelStop s = .next t ∧ SameButChoice (afterAnswer s r record .ok 0 0) t) ∧
      ((s.port p).state = .faulted → (s.port p).faultLine = true →
        ∃ t, exec .panelStop s = .next t ∧ SameButChoice (afterAnswer s r record .refusedState 0 0) t) ∧
      ((s.port p).state = .draining →
        ∃ t, exec .panelStop s = .next t ∧ SameButChoice ((afterTake s r).setPort p { s.port p with
          waitingStops := (s.port p).waitingStops ++ [nextTicket s r record] }) t) ∧
      ∀ o : Port, o = { s.port p with
          state := .draining, waitingStarts := if (s.port p).state = .faulted then (s.port p).waitingStarts else []
          waitingStops := (s.port p).waitingStops ++ [nextTicket s r record] } →
        ((s.port p).state.accepting = true ∨ (s.port p).state = .faulted ∧ (s.port p).faultLine = false →
          recordsDistinct (s.list p) →
          ∃ t, exec .panelStop s = .next t ∧
            t.list p = (if (s.port p).state = .faulted then s.list p
              else (s.list p).filter fun e => e.state = .writing) ∧
            t.cpo.queue = s.cpo.queue ++
              (if (s.port p).state = .faulted then []
                else (s.list p).filterMap (flushCompletion .panelStopped (s.port p).frameNumber) ++
                  completionsOf (s.port p).waitingStarts .panelStopped (s.port p).frameNumber 0) ++
              (if ((s.port p).state = .faulted ∨ (s.port p).frame = none) ∧ (s.port p).balance = false then
                completionsOf o.waitingStops .ok 0 0
              else []) ∧
            ((s.port p).state ≠ .faulted → (s.port p).frame.isSome → t.port p = o) ∧
            ((s.port p).state = .faulted ∨ (s.port p).frame = none →
              ((s.port p).balance = false → t.port p = portOff o) ∧
              ∀ c, (s.port p).balance = true → windowApplied (s.port p) = some c →
                t.port p = portAtBoundary o c .balancing ((s.port p).frameNumber + 1)
                  (((s.port p).shadePhase + 1) % (2 ^ c.depth - 1)) []) ∧
            (s.transfersApart →
              Withdrawn (fun x => (s.port p).state ≠ .faulted ∧ flushedOwner p s x) s t ∧
                ∀ q, q ≠ p → Granted (s.list q) (t.list q)) ∧
            (∀ q, q ≠ p → t.port q = s.port q) ∧ t.regions = s.regions ∧ t.dev = s.dev)

/-- A held PANEL_HOLD and a held PANEL_WINDOW (R88, R89): their checks in order, and what they change. A window is
recorded as pending while the panel runs frames, and otherwise written at once. Detail b of REFUSED_PARAM and the
details of PANEL_WINDOW's REFUSED_STATE are log entry 16's choice. -/
def Obligations.PanelHoldAndWindowRecords : Prop :=
  (∀ (s : State) (r : RingId) (record : List Byte), Held .panelHold s r record →
     (3 < byteAt record 16 →
       ∃ t, exec .panelHold s = .next t ∧ SameButChoice (afterAnswer s r record .refusedParam 1 0) t) ∧
     ∀ p : PanelId, byteAt record 16 = p.val →
       (1 < byteAt record 17 →
         ∃ t, exec .panelHold s = .next t ∧ SameButChoice (afterAnswer s r record .refusedParam 2 0) t) ∧
       (byteAt record 17 ≤ 1 → (s.port p).state ≠ .running → (s.port p).state ≠ .frozen →
         ∃ t, exec .panelHold s = .next t ∧ SameButChoice (afterAnswer s r record .refusedState 0 0) t) ∧
       (byteAt record 17 ≤ 1 → (s.port p).state = .running ∨ (s.port p).state = .frozen →
         ∃ t, exec .panelHold s = .next t ∧ SameButChoice ((afterAnswer s r record .ok 0 0).setPort p { s.port p with
           state := if byteAt record 17 = 1 then .frozen else .running }) t)) ∧
    ∀ (s : State) (r : RingId) (record : List Byte), Held .panelWindow s r record →
      (3 < byteAt record 16 →
        ∃ t, exec .panelWindow s = .next t ∧ SameButChoice (afterAnswer s r record .refusedParam 1 0) t) ∧
      ∀ p : PanelId, byteAt record 16 = p.val →
        ((s.port p).config = none →
          ∃ t, exec .panelWindow s = .next t ∧ SameButChoice (afterAnswer s r record .refusedState 0 0) t) ∧
        ∀ c, (s.port p).config = some c →
          (c.height ≤ field16 record 18 →
            ∃ t, exec .panelWindow s = .next t ∧ SameButChoice (afterAnswer s r record .refusedParam 2 0) t) ∧
          (field16 record 18 < c.height → field16 record 20 < field16 record 18 ∨ c.height ≤ field16 record 20 →
            ∃ t, exec .panelWindow s = .next t ∧ SameButChoice (afterAnswer s r record .refusedParam 3 0) t) ∧
          (field16 record 18 ≤ field16 record 20 → field16 record 20 < c.height →
            ∃ t, exec .panelWindow s = .next t ∧ SameButChoice ((afterAnswer s r record .ok 0 0).setPort p
              (if (s.port p).state = .off ∨ (s.port p).state = .faulted then
                { s.port p with
                  config := some { c with windowFirst := field16 record 18, windowLast := field16 record 20 } }
              else { s.port p with pendingWindow := some (field16 record 18, field16 record 20) })) t)

/-! ## Picture commands -/

/-- A held UPDATE, FILL or CAPTURE that passes every check of R23 is accepted (R26): it is taken, an UPDATE or CAPTURE
is given the lowest-numbered FREE slots, and the entry joins the list's tail, a FILL or CAPTURE READY, an UPDATE QUEUED
with its fetch asked of TU, or FETCHING at once when a channel is FREE (R69 has it QUEUED from acceptance to the grant;
that the grant falls within the acceptance is log entry 15's). Nothing is answered. -/
def Obligations.EntriesAreAccepted : Prop :=
  ∀ (kind : EntryKind) (k : Kind) (s : State) (r : RingId) (record : List Byte) (p : PanelId) (c : PanelConfig),
    kind = .update ∧ k = .update ∨ kind = .fill ∧ k = .fill ∨ kind = .capture ∧ k = .capture →
    Held k s r record → byteAt record 16 = p.val → (s.port p).state.accepting = true →
    (s.port p).config = some c → (∀ n, entryFieldPasses kind record c n) →
    (kind ≠ .fill → entryCost record c ≤ 16384 ∧ (entryCost record c + 2047) / 2048 ≤ s.freeSlots.length) →
    (kind ≠ .capture → ∀ t i, ¬clashes s p (rectAt record 18) t i) → (s.list p).length < 32 →
    (∀ e ∈ s.list p, e.isOf r ((s.ring r).take + 1) = false) →
    (kind = .fill → ∃ t, exec k.command s = .next t ∧
      SameButChoice ((afterTake s r).setList p (s.list p ++ [{
        ticket := nextTicket s r record, kind := kind, rect := rectAt record 18, state := .ready, slots := none
        address := none, stride := none, shade := some (byteAt record 26), cost := entryCost record c
        commitFrame := none }])) t) ∧
    (kind = .capture → ∃ t l, exec k.command s = .next t ∧
      LowestFree s ((entryCost record c + 2047) / 2048) l ∧
      (∀ i, t.slot i = if i ∈ l then .owned (.entry p r ((s.ring r).take + 1)) else s.slot i) ∧
      SameButChoice { (afterTake s r).setList p (s.list p ++ [{
        ticket := nextTicket s r record, kind := kind, rect := rectAt record 18, state := .ready, slots := some l
        address := some (field64 record 32), stride := some (field32 record 40), shade := none
        cost := entryCost record c, commitFrame := none }]) with slots := t.slots } t) ∧
    (kind = .update → (s.waitQueue = [] ∨ ∀ i, s.channel i ≠ .free) → ∃ t l, exec k.command s = .next t ∧
      LowestFree s ((entryCost record c + 2047) / 2048) l ∧
      (∀ i, t.slot i = if i ∈ l then .owned (.entry p r ((s.ring r).take + 1)) else s.slot i) ∧
      Carried {
        owner := .entry p r ((s.ring r).take + 1), write := false, address := field64 record 32
        stride := field32 record 40, rowBytes := (field16 record 22 * c.depth + 7) / 8, rows := field16 record 24
        slots := l, done := 0 } s t ∧
      SameButChoice { (afterTake s r).setList p (s.list p ++ [{
        ticket := nextTicket s r record, kind := kind, rect := rectAt record 18
        state := if ∃ i, s.channel i = .free then .fetching else .queued
        slots := some l, address := some (field64 record 32), stride := some (field32 record 40), shade := none
        cost := entryCost record c, commitFrame := none }]) with
        slots := t.slots, channels := t.channels, waitQueue := t.waitQueue } t)

/-- A held UPDATE, FILL or CAPTURE that fails a check of R23 to R25 is taken and refused by the first that fails, and
nothing else changes: the panel, its state, the fields, the size, a reserved rectangle of the lowest tally and slot, the
list's 32 places. -/
def Obligations.EntriesAreRefused : Prop :=
  ∀ (kind : EntryKind) (k : Kind) (s : State) (r : RingId) (record : List Byte),
    kind = .update ∧ k = .update ∨ kind = .fill ∧ k = .fill ∨ kind = .capture ∧ k = .capture →
    Held k s r record →
    (3 < byteAt record 16 →
      ∃ t, exec k.command s = .next t ∧ SameButChoice (afterAnswer s r record .refusedParam 1 0) t) ∧
    ∀ p : PanelId, byteAt record 16 = p.val →
      ((s.port p).state = .off ∨ (s.port p).state = .draining ∨ (s.port p).state = .faulted →
        ∃ t, exec k.command s = .next t ∧ SameButChoice (afterAnswer s r record .refusedState 0 0) t) ∧
      ∀ c, (s.port p).state.accepting = true → (s.port p).config = some c →
        (∀ n, 2 ≤ n → n ≤ 4 → ¬entryFieldPasses kind record c n →
          (∀ m, 2 ≤ m → m < n → entryFieldPasses kind record c m) →
          ∃ t, exec k.command s = .next t ∧ SameButChoice (afterAnswer s r record .refusedParam n 0) t) ∧
        ((∀ n, entryFieldPasses kind record c n) →
          (kind ≠ .fill → 16384 < entryCost record c →
            ∃ t, exec k.command s = .next t ∧
              SameButChoice (afterAnswer s r record .tooLarge (entryCost record c) 0) t) ∧
          ((kind = .fill ∨ entryCost record c ≤ 16384) →
            (∀ t i, kind ≠ .capture → clashes s p (rectAt record 18) t i →
              (∀ t' i', t' < t ∨ t' = t ∧ i' < i → ¬clashes s p (rectAt record 18) t' i') →
              ∃ u, exec k.command s = .next u ∧
                SameButChoice (afterAnswer s r record .conflict t.val i.val) u) ∧
            ((kind ≠ .capture → ∀ t i, ¬clashes s p (rectAt record 18) t i) → 32 ≤ (s.list p).length →
              ∃ t, exec k.command s = .next t ∧ SameButChoice
                (afterAnswer s r record .listFull 32 ((s.list p).countP fun e => e.state = .committed)) t)))

/-- A held CANCEL (R31 to R34, R135): a scope that is neither a panel nor ALL is refused (detail b there is log entry
16's choice); with nothing that matches it is NOT_FOUND. Otherwise, where no two operations under way have one owner
(R69) and no two entries of a list one record (R170), every matching entry not yet committed leaves with CANCELLED, list
by list from the head; for ALL every matching load leaves after them, its set EMPTY; their fetches and slots are
withdrawn as R33 and R76 say; and the CANCEL completes OK with the two counts. Entries that stay are unchanged but for
the grant of a channel. -/
def Obligations.CancelRecords : Prop :=
  ∀ (s : State) (r : RingId) (record : List Byte), Held .cancel s r record →
    (3 < byteAt record 20 → byteAt record 20 ≠ 255 →
      ∃ t, exec .cancel s = .next t ∧ SameButChoice (afterAnswer s r record .refusedParam 2 0) t) ∧
    ∀ (ps : List PanelId) (cut late : PanelId → List Entry) (loads : List Ticket),
      ((byteAt record 20 = 255 ∧ ps = [0, 1, 2, 3]) ∨ ∃ p : PanelId, byteAt record 20 = p.val ∧ ps = [p]) →
      (∀ p, cut p = (s.list p).filter fun e =>
        e.ticket.tag.toNat = field32 record 16 ∧ e.state ≠ .committed ∧ e.state ≠ .writing) →
      (∀ p, late p = (s.list p).filter fun e =>
        e.ticket.tag.toNat = field32 record 16 ∧ (e.state = .committed ∨ e.state = .writing)) →
      (loads = if byteAt record 20 = 255 then (List.finRange 4).filterMap (fun g =>
          match s.glyph g with
          | .loading _ _ _ k _ => if k.tag.toNat = field32 record 16 then some k else none
          | .empty => none
          | .ready _ _ _ _ => none)
        else []) →
      ((∀ p ∈ ps, cut p = [] ∧ late p = []) → loads = [] →
        ∃ t, exec .cancel s = .next t ∧ SameButChoice (afterAnswer s r record .notFound 0 0) t) ∧
      ((¬((∀ p ∈ ps, cut p = [] ∧ late p = []) ∧ loads = [])) → (∀ p, recordsDistinct (s.list p)) →
        s.transfersApart →
        ∃ t, exec .cancel s = .next t ∧
          t.cpo.queue = s.cpo.queue ++
            (ps.flatMap fun p => completionsOf ((cut p).map (·.ticket)) .cancelled 0 0) ++
            completionsOf loads .cancelled 0 0 ++
            [{ ticket := nextTicket s r record, status := .ok
               detailA := BitVec.ofNat 32 ((ps.map fun p => (cut p).length).sum + loads.length)
               detailB := BitVec.ofNat 32 (ps.map fun p => (late p).length).sum }] ∧
          (∀ p, Granted ((s.list p).filter fun e => !decide (p ∈ ps ∧ e ∈ cut p)) (t.list p)) ∧
          Withdrawn (fun o =>
            (∃ p ∈ ps, ∃ e ∈ cut p, o = .entry p e.ticket.ring e.ticket.take) ∨
              ∃ g w h sep k l, s.glyph g = .loading w h sep k l ∧ byteAt record 20 = 255 ∧
                k.tag.toNat = field32 record 16 ∧ o = .glyph g) s t ∧
          (∀ g, t.glyph g = match s.glyph g with
            | .loading w h sep k l =>
              if byteAt record 20 = 255 ∧ k.tag.toNat = field32 record 16 then .empty else .loading w h sep k l
            | .empty => .empty
            | .ready w h sep data => .ready w h sep data) ∧
          t.ports = s.ports ∧ t.regions = s.regions ∧ t.staging = s.staging ∧ t.bindings = s.bindings ∧
          t.tallies = s.tallies ∧ t.dev = s.dev)

/-! ## Glyphs and bindings -/

/-- A held GLYPH_LOAD (R132, R133): refused for a set above 3, a LOADING set, a set that bindings name, and the first
field out of range; with its slots FREE it is accepted: the set is LOADING, the lowest-numbered FREE slots are its own,
and its fetch is asked of TU (granted at once when a channel is FREE: log entry 15). -/
def Obligations.GlyphLoadRecords : Prop :=
  ∀ (s : State) (r : RingId) (record : List Byte) (w h sep a : Nat), Held .glyphLoad s r record →
    w = byteAt record 17 → h = byteAt record 18 → sep = byteAt record 19 → a = field64 record 24 →
    (3 < byteAt record 16 →
      ∃ t, exec .glyphLoad s = .next t ∧ SameButChoice (afterAnswer s r record .refusedParam 1 0) t) ∧
    ∀ g : Fin 4, byteAt record 16 = g.val →
      ((∃ w' h' sep' k l, s.glyph g = .loading w' h' sep' k l) →
        ∃ t, exec .glyphLoad s = .next t ∧ SameButChoice (afterAnswer s r record .refusedState 1 0) t) ∧
      ((∀ w' h' sep' k l, s.glyph g ≠ .loading w' h' sep' k l) →
        ∀ bs, bs = (List.finRange 32).countP (fun i => s.bindings[i].any fun b => b.glyphSet == g) →
        (bs ≠ 0 → ∃ t, exec .glyphLoad s = .next t ∧ SameButChoice (afterAnswer s r record .inUse bs 0) t) ∧
        (bs = 0 →
          (w < 4 ∨ 32 < w →
            ∃ t, exec .glyphLoad s = .next t ∧ SameButChoice (afterAnswer s r record .refusedParam 2 0) t) ∧
          (4 ≤ w → w ≤ 32 →
            (h < 5 ∨ 48 < h →
              ∃ t, exec .glyphLoad s = .next t ∧ SameButChoice (afterAnswer s r record .refusedParam 3 0) t) ∧
            (5 ≤ h → h ≤ 48 →
              (sep < 1 ∨ w < sep →
                ∃ t, exec .glyphLoad s = .next t ∧ SameButChoice (afterAnswer s r record .refusedParam 4 0) t) ∧
              (1 ≤ sep → sep ≤ w →
                (2 ^ 64 < a + 13 * ((w + 7) / 8 * h) →
                  ∃ t, exec .glyphLoad s = .next t ∧
                    SameButChoice (afterAnswer s r record .refusedParam 5 0) t) ∧
                (a + 13 * ((w + 7) / 8 * h) ≤ 2 ^ 64 →
                  (13 * ((w + 7) / 8 * h) + 2047) / 2048 ≤ s.freeSlots.length →
                  (s.waitQueue = [] ∨ ∀ i, s.channel i ≠ .free) →
                  ∃ t l, exec .glyphLoad s = .next t ∧
                    LowestFree s ((13 * ((w + 7) / 8 * h) + 2047) / 2048) l ∧
                    (∀ i, t.slot i = if i ∈ l then .owned (.glyph g) else s.slot i) ∧
                    Carried {
                      owner := .glyph g, write := false, address := a, stride := 13 * ((w + 7) / 8 * h)
                      rowBytes := 13 * ((w + 7) / 8 * h), rows := 1, slots := l, done := 0 } s t ∧
                    SameButChoice {
                      (afterTake s r).setGlyph g (.loading w h sep (nextTicket s r record) l) with
                      slots := t.slots, channels := t.channels, waitQueue := t.waitQueue } t))))))

/-- A held TALLY_BIND that passes the checks of R137 fills the place with the binding of R136, dirty, and completes OK
with its width and height (R138); one that fails a check is refused by the first that fails, in the order of R137:
tally, slot, UNDEFINED, a place that holds a binding, panel, glyph set and its state, pitch, shades, blanking,
separators, expiry group, the computed rect against the panel, reserved rectangles, entries. A held TALLY_UNBIND empties
a place that holds a binding and reports its panel, and is NOT_FOUND for an empty place (R140; detail b of its
REFUSED_PARAM is log entry 16's choice). -/
def Obligations.BindAndUnbindRecords : Prop :=
  (∀ (s : State) (r : RingId) (record : List Byte) (t : TallyId) (i : Fin 2), Held .tallyBind s r record →
     byteAt record 16 = t.val → byteAt record 17 = i.val →
     ((s.tally t).defn = none →
       ∃ u, exec .tallyBind s = .next u ∧ SameButChoice (afterAnswer s r record .refusedState 1 0) u) ∧
     ∀ d, (s.tally t).defn = some d →
       (∀ b, s.binding t i = some b →
         ∃ u, exec .tallyBind s = .next u ∧ SameButChoice (afterAnswer s r record .inUse b.panel.val 0) u) ∧
       ∀ (p : PanelId) (c : PanelConfig) (g : Fin 4) (w h sep n pitch : Nat) (data : List Byte) (codes : List Nat)
           (v : Binding), s.binding t i = none → byteAt record 18 = p.val → (s.port p).config = some c →
         byteAt record 24 = g.val → s.glyph g = .ready w h sep data → n = d.moduli.length → pitch = byteAt record 25 →
         w ≤ pitch → pitch ≤ 40 → byteAt record 26 ≤ 2 ^ c.depth - 1 → byteAt record 27 ≤ 2 ^ c.depth - 1 →
         byteAt record 28 ≤ n - 1 → codes = (List.range (min 7 (n - 1))).map (fun j => byteAt record (29 + j)) →
         (∀ x ∈ codes, x ≤ 2) → (byteAt record 37 % 2 = 1 → byteAt record 36 ≤ 3) →
         v = {
           panel := p
           rect := {
             x := field16 record 20, y := field16 record 22
             w := n * pitch + (codes.filter (· ≠ 0)).length * sep, h := h }
           glyphSet := g, pitch := pitch, foreground := byteAt record 26, background := byteAt record 27
           blankLeading := byteAt record 28
           separators := codes.map fun x => if x = 0 then .none else if x = 1 then .colon else .point
           expiryGroup := if byteAt record 37 % 2 = 1 then some (Fin.ofNat 4 (byteAt record 36)) else none
           dirty := true } →
         v.rect.x + v.rect.w ≤ c.width → v.rect.y + v.rect.h ≤ c.height → 1 ≤ v.rect.w → 1 ≤ h →
         (∀ t' i', clashes s p v.rect t' i' →
           (∀ t'' i'', t'' < t' ∨ t'' = t' ∧ i'' < i' → ¬clashes s p v.rect t'' i'') →
           ∃ u, exec .tallyBind s = .next u ∧ SameButChoice (afterAnswer s r record .conflict t'.val i'.val) u) ∧
         ((∀ t' i', ¬clashes s p v.rect t' i') →
           (∀ e, (s.list p).find? (fun e => e.kind != .capture && v.rect.intersects e.rect) = some e →
             ∃ u, exec .tallyBind s = .next u ∧
               SameButChoice (afterAnswer s r record .conflict 16 e.ticket.tag.toNat) u) ∧
           ((∀ e ∈ s.list p, e.kind = .capture ∨ v.rect.intersects e.rect = false) →
             ∃ u, exec .tallyBind s = .next u ∧
               SameButChoice ((afterAnswer s r record .ok v.rect.w v.rect.h).setBinding t i (some v)) u))) ∧
    (∀ (s : State) (r : RingId) (record : List Byte), Held .tallyBind s r record →
      (15 < byteAt record 16 →
        ∃ u, exec .tallyBind s = .next u ∧ SameButChoice (afterAnswer s r record .refusedParam 1 0) u) ∧
      ∀ t : TallyId, byteAt record 16 = t.val →
        (1 < byteAt record 17 →
          ∃ u, exec .tallyBind s = .next u ∧ SameButChoice (afterAnswer s r record .refusedParam 2 0) u) ∧
        ∀ (i : Fin 2) (d : TallyDef), byteAt record 17 = i.val → (s.tally t).defn = some d → s.binding t i = none →
          (3 < byteAt record 18 →
            ∃ u, exec .tallyBind s = .next u ∧ SameButChoice (afterAnswer s r record .refusedParam 3 0) u) ∧
          ∀ p : PanelId, byteAt record 18 = p.val →
            ((s.port p).config = none →
              ∃ u, exec .tallyBind s = .next u ∧ SameButChoice (afterAnswer s r record .refusedParam 3 0) u) ∧
            ∀ c, (s.port p).config = some c →
              (3 < byteAt record 24 →
                ∃ u, exec .tallyBind s = .next u ∧ SameButChoice (afterAnswer s r record .refusedParam 6 0) u) ∧
              ∀ g : Fin 4, byteAt record 24 = g.val →
                (s.glyph g = .empty →
                  ∃ u, exec .tallyBind s = .next u ∧ SameButChoice (afterAnswer s r record .refusedState 6 0) u) ∧
                (∀ w h sep k l, s.glyph g = .loading w h sep k l →
                  ∃ u, exec .tallyBind s = .next u ∧ SameButChoice (afterAnswer s r record .refusedState 6 1) u) ∧
                ∀ w h sep data n, s.glyph g = .ready w h sep data → n = d.moduli.length →
                  (∀ f b, 7 ≤ f → f ≤ 12 → ¬bindFieldPasses record w n c f →
                    (∀ m, 7 ≤ m → m < f → bindFieldPasses record w n c m) →
                    (f = 11 → b < min 7 (n - 1) ∧ 2 < byteAt record (29 + b) ∧ ∀ j, j < b → byteAt record (29 + j) ≤ 2) →
                    (f ≠ 11 → b = 0) →
                    ∃ u, exec .tallyBind s = .next u ∧ SameButChoice (afterAnswer s r record .refusedParam f b) u) ∧
                  (∀ x y width, (∀ f, bindFieldPasses record w n c f) → 1 ≤ n → 1 ≤ w → 1 ≤ h →
                    x = field16 record 20 → y = field16 record 22 →
                    width = n * byteAt record 25 +
                      ((List.range (min 7 (n - 1))).countP fun j => byteAt record (29 + j) != 0) * sep →
                    (c.width < x + width →
                      ∃ u, exec .tallyBind s = .next u ∧ SameButChoice (afterAnswer s r record .refusedParam 4 0) u) ∧
                    (x + width ≤ c.width → c.height < y + h →
                      ∃ u, exec .tallyBind s = .next u ∧
                        SameButChoice (afterAnswer s r record .refusedParam 5 0) u))) ∧
    ∀ (s : State) (r : RingId) (record : List Byte), Held .tallyUnbind s r record →
      (15 < byteAt record 16 →
        ∃ u, exec .tallyUnbind s = .next u ∧ SameButChoice (afterAnswer s r record .refusedParam 1 0) u) ∧
      ∀ t : TallyId, byteAt record 16 = t.val →
        (1 < byteAt record 17 →
          ∃ u, exec .tallyUnbind s = .next u ∧ SameButChoice (afterAnswer s r record .refusedParam 2 0) u) ∧
        ∀ i : Fin 2, byteAt record 17 = i.val →
          (s.binding t i = none →
            ∃ u, exec .tallyUnbind s = .next u ∧ SameButChoice (afterAnswer s r record .notFound 0 0) u) ∧
          ∀ b, s.binding t i = some b →
            ∃ u, exec .tallyUnbind s = .next u ∧
              SameButChoice ((afterAnswer s r record .ok b.panel.val 0).setBinding t i none) u

/-! ## Tallies -/

/-- One step of a tally (R107 to R109), with the value read as a number: off the terminal value it changes by one, a
step that reaches the terminal value arrives, and makes the tally EXPIRED under STOP; from the terminal value STOP
expires it in place, WRAP goes to the other end and RELOAD to the reload value, each a carry-out. The digits stay below
their moduli. -/
def Obligations.TallyStepsCountByOne : Prop :=
  ∀ d : TallyDef, d.lawful →
    isValue d.moduli d.step.next.value ∧
    d.step.next = { d with value := d.step.next.value, run := d.step.next.run } ∧
    (d.value = d.terminal ↔ numberOf d.moduli d.value =
      match d.direction with
      | .up => valuesOf d.moduli - 1
      | .down => 0) ∧
    (d.value ≠ d.terminal →
      d.step.carryOut = false ∧ (d.step.arrived = true ↔ d.step.next.value = d.terminal) ∧
      d.step.next.run = (if d.step.next.value = d.terminal ∧ d.endAction = .stop then .expired else d.run) ∧
      (d.direction = .up → numberOf d.moduli d.step.next.value = numberOf d.moduli d.value + 1) ∧
      (d.direction = .down → numberOf d.moduli d.step.next.value + 1 = numberOf d.moduli d.value)) ∧
    (d.value = d.terminal →
      (d.endAction = .stop →
        d.step = { next := { d with run := .expired }, arrived := false, carryOut := false }) ∧
      (d.endAction = .wrap →
        d.step.carryOut = true ∧ d.step.arrived = false ∧ d.step.next.run = d.run ∧
          numberOf d.moduli d.step.next.value =
            match d.direction with
            | .up => 0
            | .down => valuesOf d.moduli - 1) ∧
      ∀ v, d.endAction = .reload → d.reload = some v →
        d.step.carryOut = true ∧ d.step.next = { d with value := v } ∧
          (d.step.arrived = true ↔ v = d.terminal))

/-- A held TALLY_DEFINE (R118, R119): refused for a tally above 15, RUNNING, or bound, and for the first field out of
range; otherwise the whole record is replaced, with both flags cleared, and the initial value is reported. A held
TALLY_READ reports value, state, digits and ms remainder, and changes nothing (R124; detail b of its REFUSED_PARAM is
log entry 16's choice). -/
def Obligations.TallyDefineAndReadRecords : Prop :=
  (∀ (s : State) (r : RingId) (record : List Byte), Held .tallyDefine s r record →
     (15 < byteAt record 16 →
       ∃ u, exec .tallyDefine s = .next u ∧ SameButChoice (afterAnswer s r record .refusedParam 1 0) u) ∧
     ∀ t : TallyId, byteAt record 16 = t.val →
       ((∃ d, (s.tally t).defn = some d ∧ d.run = .running) →
         ∃ u, exec .tallyDefine s = .next u ∧ SameButChoice (afterAnswer s r record .refusedState 2 0) u) ∧
       ((∀ d, (s.tally t).defn = some d → d.run ≠ .running) →
         ∀ bs, bs = (List.finRange 2).countP (fun i => (s.binding t i).isSome) →
         (bs ≠ 0 → ∃ u, exec .tallyDefine s = .next u ∧ SameButChoice (afterAnswer s r record .inUse bs 0) u) ∧
         (bs = 0 → ∀ n ms, n = byteAt record 17 → ms = defineModuli record n →
           (∀ f b, 2 ≤ f → f ≤ 10 → ¬defineFieldPasses record t f →
             (∀ m, 2 ≤ m → m < f → defineFieldPasses record t m) →
             (f = 3 → b < n ∧ (byteAt record (18 + b) < 2 ∨ 10 < byteAt record (18 + b)) ∧
               ∀ j, j < b → 2 ≤ byteAt record (18 + j) ∧ byteAt record (18 + j) ≤ 10) →
             (f = 7 → firstBadDigit ms (digitsOf n (field32 record 32)) b) →
             (f = 8 → firstBadDigit ms (digitsOf n (field32 record 36)) b) →
             (f = 9 → firstBadDigit ms (digitsOf n (field32 record 40)) b) →
             (f ≠ 3 → f ≠ 7 → f ≠ 8 → f ≠ 9 → b = 0) →
             ∃ u, exec .tallyDefine s = .next u ∧ SameButChoice (afterAnswer s r record .refusedParam f b) u) ∧
           ((∀ f, 2 ≤ f → f ≤ 10 → defineFieldPasses record t f) →
             ∃ u src, exec .tallyDefine s = .next u ∧
               SameButChoice ((afterAnswer s r record .ok 0 (field32 record 36 % 16 ^ n)).setTally t {
                 endCount := 0, watchCount := 0
                 defn := some {
                   run := .stopped, moduli := ms, value := digitsOf n (field32 record 36)
                   direction := if byteAt record 26 = 0 then .up else .down
                   source := src
                   endAction := if byteAt record 28 = 0 then .stop else if byteAt record 28 = 1 then .wrap else .reload
                   reload := if byteAt record 28 = 2 then some (digitsOf n (field32 record 32)) else none
                   watch := if byteAt record 30 % 2 = 1 then some (digitsOf n (field32 record 40)) else none
                   endEnabled := byteAt record 29 % 2 = 1
                   watchEnabled := 2 ≤ byteAt record 29
                   remainder := if 8 ≤ byteAt record 27 ∧ byteAt record 27 ≤ 11 then some 0 else none } }) u ∧
               (∀ k : LineId, byteAt record 27 = k.val → src = .cin k) ∧ (byteAt record 27 = 8 → src = .p10ms) ∧
               (byteAt record 27 = 9 → src = .p100ms) ∧ (byteAt record 27 = 10 → src = .p1s) ∧
               (byteAt record 27 = 11 → src = .p1min) ∧ (byteAt record 27 = 12 → src = .host) ∧
               ∀ k : TallyId, byteAt record 27 = 16 + k.val → src = .tally k)))) ∧
    ∀ (s : State) (r : RingId) (record : List Byte), Held .tallyRead s r record →
      (15 < byteAt record 16 →
        ∃ u, exec .tallyRead s = .next u ∧ SameButChoice (afterAnswer s r record .refusedParam 1 0) u) ∧
      ∀ t : TallyId, byteAt record 16 = t.val →
        ((s.tally t).defn = none →
          ∃ u, exec .tallyRead s = .next u ∧ SameButChoice (afterAnswer s r record .ok 0 0) u) ∧
        ∀ d, (s.tally t).defn = some d → d.lawful →
          ∃ u, exec .tallyRead s = .next u ∧ SameButChoice (afterAnswer s r record .ok (packedForm d.value)
            ((match d.run with
              | .stopped => 1
              | .running => 2
              | .expired => 3) * 2 ^ 24 + d.moduli.length * 2 ^ 16 + d.remainder.getD 0)) u

/-- A held TALLY_CONTROL (R120 to R123): refused for a tally above 15, an unknown operation, an UNDEFINED tally, and
START and ADD of an EXPIRED one. START and STOP move the run state alone. SET refuses a digit out of range and loads the
value, with the remainder 0, EXPIRED become STOPPED and the bindings dirty. ADD refuses a count of 0 and takes its steps
one by one until the count or EXPIRED, each with its flags, its dirty marks and the tallies it feeds, reports how many,
and leaves every lower tally as it is. OK reports the value after. Detail b of REFUSED_PARAM for fields 1, 2 and 4 is
log entry 16's choice. -/
def Obligations.TallyControlRecords : Prop :=
  ∀ (s : State) (r : RingId) (record : List Byte), Held .tallyControl s r record →
    (15 < byteAt record 16 →
      ∃ u, exec .tallyControl s = .next u ∧ SameButChoice (afterAnswer s r record .refusedParam 1 0) u) ∧
    ∀ t : TallyId, byteAt record 16 = t.val →
      (3 < byteAt record 17 →
        ∃ u, exec .tallyControl s = .next u ∧ SameButChoice (afterAnswer s r record .refusedParam 2 0) u) ∧
      (byteAt record 17 ≤ 3 → (s.tally t).defn = none →
        ∃ u, exec .tallyControl s = .next u ∧ SameButChoice (afterAnswer s r record .refusedState 0 0) u) ∧
      ∀ d, (s.tally t).defn = some d → s.talliesLawful →
        (byteAt record 17 = 0 ∨ byteAt record 17 = 3 → d.run = .expired →
          ∃ u, exec .tallyControl s = .next u ∧ SameButChoice (afterAnswer s r record .refusedState 3 0) u) ∧
        (byteAt record 17 = 0 → d.run ≠ .expired →
          ∃ u, exec .tallyControl s = .next u ∧
            SameButChoice ((afterAnswer s r record .ok 0 (packedForm d.value)).setTally t
              { s.tally t with defn := some { d with run := .running } }) u) ∧
        (byteAt record 17 = 1 →
          ∃ u, exec .tallyControl s = .next u ∧
            SameButChoice ((afterAnswer s r record .ok 0 (packedForm d.value)).setTally t
              { s.tally t with defn := some { d with run := if d.run = .expired then .expired else .stopped } }) u) ∧
        (byteAt record 17 = 2 → ∀ v, v = digitsOf d.moduli.length (field32 record 20) →
          (∀ i, firstBadDigit d.moduli v i →
            ∃ u, exec .tallyControl s = .next u ∧ SameButChoice (afterAnswer s r record .refusedParam 3 i) u) ∧
          (digitsFit d.moduli v →
            ∃ u, exec .tallyControl s = .next u ∧
              (∀ k i, u.binding k i =
                (s.binding k i).map fun b => { b with dirty := b.dirty || decide (k = t) }) ∧
              SameButChoice { (afterAnswer s r record .ok 0 (packedForm v)).setTally t { s.tally t with
                defn := some { d with
                  value := v, remainder := d.remainder.map fun _ => 0
                  run := if d.run = .expired then .stopped else d.run } } with bindings := u.bindings } u)) ∧
        (byteAt record 17 = 3 → d.run ≠ .expired → field16 record 24 = 0 →
          ∃ u, exec .tallyControl s = .next u ∧ SameButChoice (afterAnswer s r record .refusedParam 4 0) u) ∧
        (byteAt record 17 = 3 → d.run ≠ .expired → field16 record 24 ≠ 0 →
          ∃ u taken after, exec .tallyControl s = .next u ∧
            1 ≤ taken ∧ taken ≤ field16 record 24 ∧ after = Nat.iterate (fun x : TallyDef => x.step.next) taken d ∧
            (∀ j, j < taken → (Nat.iterate (fun x : TallyDef => x.step.next) j d).run ≠ .expired) ∧
            (taken = field16 record 24 ∨ after.run = .expired) ∧ (u.tally t).defn = some after ∧
            (∃ path : Nat → State, path 0 = s ∧ (∀ j, j < taken → AddStep t (path j) (path (j + 1))) ∧
              u.tallies = (path taken).tallies ∧ u.bindings = (path taken).bindings) ∧
            (∀ k, k < t → u.tally k = s.tally k) ∧
            (∀ k, (∀ d', (s.tally k).defn = some d' → d'.run = .running → ∀ j, d'.source ≠ .tally j) → k ≠ t →
              u.tally k = s.tally k) ∧
            SameButChoice { afterAnswer s r record .ok taken (packedForm after.value) with
              tallies := u.tallies, bindings := u.bindings } u)

/-! ## Ticks and count inputs -/

/-- The ticks (R115, R146, R148, R150, R151). A us tick adds one to the us count, to every frame's and the burst's
elapsed time; one that brings the count to a multiple of 1000 is an ms tick too: the ms count rises, every RUNNING tally
with a timebase source counts and steps at its period, and the filters count and accept. The other three names of the
tick do exactly that when what they name falls due, and nothing otherwise (log entries 6 and 7). -/
def Obligations.TicksReachTheirConsumers : Prop :=
  (∀ s : State, s.tb.running = false → ∀ c : Instr, c = .usTick ∨ c = .msTick →
     ∃ t, exec c s = .next t ∧ SameButChoice s t) ∧
    ∀ s : State, s.tb.running = true →
      ((s.tb.us + 1).toNat % 1000 ≠ 0 →
        exec .msTick s = .next s ∧ (∀ k, exec (.timebasePeriodStep k) s = .next s) ∧
          (∀ n, exec (.filterHoldExpiry n) s = .next s) ∧
          ∃ t, exec .usTick s = .next t ∧
            (∀ p, t.port p = { s.port p with
              frame := (s.port p).frame.map fun f => { f with elapsed := f.elapsed + 1 } }) ∧
            SameButChoice { s with
              tb := { s.tb with us := s.tb.us + 1 }, ports := t.ports
              flight := s.flight.map fun f => { f with elapsed := f.elapsed + 1 } } t) ∧
      ((s.tb.us + 1).toNat % 1000 = 0 → s.talliesLawful →
        ∀ c : Instr, (c = .usTick ∨ c = .msTick ∨
            (∃ k d, c = .timebasePeriodStep k ∧ (s.tally k).defn = some d ∧ d.run = .running ∧ d.periodEnds) ∨
            ∃ n, c = .filterHoldExpiry n ∧ (s.cin n).expires) →
          ∃ t, exec c s = .next t ∧
            (∀ p, t.port p = { s.port p with
              frame := (s.port p).frame.map fun f => { f with elapsed := f.elapsed + 1 } }) ∧
            (∀ n, ((s.cin n).expires → t.cin n = { s.cin n with accepted := some (s.cin n).raw, hold := 0 }) ∧
              (¬(s.cin n).expires → t.cin n =
                if (s.cin n).accepted = some (!(s.cin n).raw) ∧ 1 ≤ (s.cin n).filter then
                  { s.cin n with hold := (s.cin n).hold + 1 }
                else s.cin n)) ∧
            ChainFrom
              (fun d => d.periodEnds ∨ ∃ n, d.source = .cin n ∧ (s.cin n).expires ∧ (s.cin n).edgeCounts)
              remainderMs s t ∧
            SameButChoice { s with
              tb := { s.tb with us := s.tb.us + 1, ms := s.tb.ms + 1 }, ports := t.ports, cins := t.cins
              tallies := t.tallies, bindings := t.bindings
              flight := s.flight.map fun f => { f with elapsed := f.elapsed + 1 } } t)

/-- A change of a count input's raw level (R149 to R151). While the timebase is stopped the line is not watched. Under
filter 0 the accepted level follows at once, and an edge that the line's setting accepts steps every RUNNING tally of
the line with its chain; under a filter a change back to the accepted level clears the hold count, and any other change
only moves the raw level. A change to the level the line has is none (log entry 6). -/
def Obligations.CountInputLevelChanges : Prop :=
  ∀ (n : LineId) (v : Bool) (s : State),
    ((s.cin n).raw = v → exec (.cinLevelChange n v) s = .next s) ∧
    ((s.cin n).raw = !v →
      (s.tb.running = false →
        exec (.cinLevelChange n v) s = .next (s.setCin n { s.cin n with raw := v })) ∧
      (s.tb.running = true →
        (1 ≤ (s.cin n).filter →
          ∃ t, exec (.cinLevelChange n v) s = .next t ∧ SameButChoice (s.setCin n { s.cin n with
            raw := v
            hold := if (s.cin n).accepted = some (!v) then (s.cin n).hold else 0 }) t) ∧
        (∀ c : CountInput, (s.cin n).filter = 0 → (s.cin n).accepted = some (!v) → s.talliesLawful →
          c = { s.cin n with raw := v, accepted := some v, hold := 0 } →
          ∃ t, exec (.cinLevelChange n v) s = .next t ∧
            ChainFrom (fun d => d.source = .cin n ∧ c.edgeCounts) id s t ∧
            SameButChoice { s.setCin n c with tallies := t.tallies, bindings := t.bindings } t)))

/-- Held BLINK_GROUP, BLINK_ZONE and COUNT_INPUT records (R152, R155, R158): their checks in order, and what they write.
A group begins its period at the ms count of the dispatch; a zone's completion says whether the place held one; a line
takes its raw level as accepted with no edge. Detail b of REFUSED_PARAM is log entry 16's choice. -/
def Obligations.BlinkAndCountInputRecords : Prop :=
  (∀ (s : State) (r : RingId) (record : List Byte), Held .blinkGroup s r record →
     (3 < byteAt record 16 →
       ∃ t, exec .blinkGroup s = .next t ∧ SameButChoice (afterAnswer s r record .refusedParam 1 0) t) ∧
     ∀ g : Fin 4, byteAt record 16 = g.val →
       (field16 record 18 < 2 ∨ 500 < field16 record 18 →
         ∃ t, exec .blinkGroup s = .next t ∧ SameButChoice (afterAnswer s r record .refusedParam 2 0) t) ∧
       (2 ≤ field16 record 18 → field16 record 18 ≤ 500 →
         (byteAt record 20 ≠ 25 → byteAt record 20 ≠ 50 → byteAt record 20 ≠ 75 →
           ∃ t, exec .blinkGroup s = .next t ∧ SameButChoice (afterAnswer s r record .refusedParam 3 0) t) ∧
         (byteAt record 20 = 25 ∨ byteAt record 20 = 50 ∨ byteAt record 20 = 75 →
           ∃ t, exec .blinkGroup s = .next t ∧ SameButChoice ((afterAnswer s r record .ok 0 0).setGroup g
             { period := field16 record 18, duty := byteAt record 20, epoch := s.tb.ms }) t))) ∧
    (∀ (s : State) (r : RingId) (record : List Byte), Held .blinkZone s r record →
      (15 < byteAt record 16 →
        ∃ t, exec .blinkZone s = .next t ∧ SameButChoice (afterAnswer s r record .refusedParam 1 0) t) ∧
      ∀ (z : Fin 16) (was : Nat), byteAt record 16 = z.val → was = (if (s.zone z).isSome then 1 else 0) →
        (1 < byteAt record 17 →
          ∃ t, exec .blinkZone s = .next t ∧ SameButChoice (afterAnswer s r record .refusedParam 2 0) t) ∧
        (byteAt record 17 = 0 →
          ∃ t, exec .blinkZone s = .next t ∧ SameButChoice ((afterAnswer s r record .ok was 0).setZone z none) t) ∧
        (byteAt record 17 = 1 →
          ((3 < byteAt record 18 ∨ ∃ p : PanelId, byteAt record 18 = p.val ∧ (s.port p).config = none) →
            ∃ t, exec .blinkZone s = .next t ∧ SameButChoice (afterAnswer s r record .refusedParam 3 0) t) ∧
          ∀ (p : PanelId) (c : PanelConfig) (q : Rect), byteAt record 18 = p.val → (s.port p).config = some c →
            q = rectAt record 20 →
            (¬(1 ≤ q.w ∧ 1 ≤ q.h ∧ q.x + q.w ≤ c.width ∧ q.y + q.h ≤ c.height) →
              ∃ t, exec .blinkZone s = .next t ∧ SameButChoice (afterAnswer s r record .refusedParam 4 0) t) ∧
            (1 ≤ q.w → 1 ≤ q.h → q.x + q.w ≤ c.width → q.y + q.h ≤ c.height →
              (3 < byteAt record 28 →
                ∃ t, exec .blinkZone s = .next t ∧ SameButChoice (afterAnswer s r record .refusedParam 5 0) t) ∧
              ∀ g : Fin 4, byteAt record 28 = g.val →
                ∃ t, exec .blinkZone s = .next t ∧ SameButChoice ((afterAnswer s r record .ok was 0).setZone z
                  (some { panel := p, rect := q, group := g })) t))) ∧
    ∀ (s : State) (r : RingId) (record : List Byte), Held .countInput s r record →
      (7 < byteAt record 16 →
        ∃ t, exec .countInput s = .next t ∧ SameButChoice (afterAnswer s r record .refusedParam 1 0) t) ∧
      ∀ n : LineId, byteAt record 16 = n.val →
        (2 < byteAt record 17 →
          ∃ t, exec .countInput s = .next t ∧ SameButChoice (afterAnswer s r record .refusedParam 2 0) t) ∧
        (byteAt record 17 ≤ 2 → 15 < byteAt record 18 →
          ∃ t, exec .countInput s = .next t ∧ SameButChoice (afterAnswer s r record .refusedParam 3 0) t) ∧
        (byteAt record 17 ≤ 2 → byteAt record 18 ≤ 15 →
          ∃ t, exec .countInput s = .next t ∧
            SameButChoice ((afterAnswer s r record .ok (if (s.cin n).raw then 1 else 0) 0).setCin n {
              raw := (s.cin n).raw
              edge := if byteAt record 17 = 0 then .rise else if byteAt record 17 = 1 then .fall else .both
              filter := byteAt record 18, accepted := some (s.cin n).raw, hold := 0 }) t)

/-! ## Packed forms -/

/-- The packed forms lose nothing (R4, R5, 11.7, 11.7.3): unpacking a packed row gives each pixel's shade back and its
pad bits are 0, a value comes back from its packed digits, and a little-endian field from its bytes. -/
def Obligations.PackedFormsComeBack : Prop :=
  (∀ (f : Nat → Nat) (w d i : Nat), d = 1 ∨ d = 2 ∨ d = 4 → i < w →
     unpackPixel (packByte f w d (i * d / 8)) i d = f i % 2 ^ d) ∧
    (∀ (f : Nat → Nat) (w d i : Nat), d = 1 ∨ d = 2 ∨ d = 4 → w ≤ i →
      unpackPixel (packByte f w d (i * d / 8)) i d = 0) ∧
    (∀ v : List Nat, (∀ x ∈ v, x < 16) → unpackDigits v.length (packDigits v) = v) ∧
    (∀ n w : Nat, packDigits (unpackDigits n w) = w % 16 ^ n) ∧
    ∀ (n v : Nat) (rest : List Byte), fieldAt (leBytes n v ++ rest) 0 n = v % 256 ^ n
end

