-- ==== Sys2Proof/Laws/State.lean ====
section
/-! SUPPORT. The small lemmas of the state's setters and accessors: one for each field and each update, so that no later
proof unfolds a record update. A setter leaves every other field and accessor as it is; an indexed setter changes its
own place and no other. -/

namespace Sys2Proof.Machine

/-! ## Setters and fields -/

@[simp] theorem State.setPending_pending (s : State) (v : List Instr) : (s.setPending v).pending = v := rfl
@[simp] theorem State.setPending_dev (s : State) (v : List Instr) : (s.setPending v).dev = s.dev := rfl
@[simp] theorem State.setPending_tb (s : State) (v : List Instr) : (s.setPending v).tb = s.tb := rfl
@[simp] theorem State.setPending_cins (s : State) (v : List Instr) : (s.setPending v).cins = s.cins := rfl
@[simp] theorem State.setPending_groups (s : State) (v : List Instr) : (s.setPending v).groups = s.groups := rfl
@[simp] theorem State.setPending_zones (s : State) (v : List Instr) : (s.setPending v).zones = s.zones := rfl
@[simp] theorem State.setPending_tallies (s : State) (v : List Instr) : (s.setPending v).tallies = s.tallies := rfl
@[simp] theorem State.setPending_glyphs (s : State) (v : List Instr) : (s.setPending v).glyphs = s.glyphs := rfl
@[simp] theorem State.setPending_bindings (s : State) (v : List Instr) : (s.setPending v).bindings = s.bindings := rfl
@[simp] theorem State.setPending_slots (s : State) (v : List Instr) : (s.setPending v).slots = s.slots := rfl
@[simp] theorem State.setPending_staging (s : State) (v : List Instr) : (s.setPending v).staging = s.staging := rfl
@[simp] theorem State.setPending_channels (s : State) (v : List Instr) : (s.setPending v).channels = s.channels := rfl
@[simp] theorem State.setPending_waitQueue (s : State) (v : List Instr) : (s.setPending v).waitQueue = s.waitQueue := rfl
@[simp] theorem State.setPending_rrNext (s : State) (v : List Instr) : (s.setPending v).rrNext = s.rrNext := rfl
@[simp] theorem State.setPending_flight (s : State) (v : List Instr) : (s.setPending v).flight = s.flight := rfl
@[simp] theorem State.setPending_ports (s : State) (v : List Instr) : (s.setPending v).ports = s.ports := rfl
@[simp] theorem State.setPending_lists (s : State) (v : List Instr) : (s.setPending v).lists = s.lists := rfl
@[simp] theorem State.setPending_regions (s : State) (v : List Instr) : (s.setPending v).regions = s.regions := rfl
@[simp] theorem State.setPending_ringU (s : State) (v : List Instr) : (s.setPending v).ringU = s.ringU := rfl
@[simp] theorem State.setPending_ringB (s : State) (v : List Instr) : (s.setPending v).ringB = s.ringB := rfl
@[simp] theorem State.setPending_passOver (s : State) (v : List Instr) : (s.setPending v).passOver = s.passOver := rfl
@[simp] theorem State.setPending_cpo (s : State) (v : List Instr) : (s.setPending v).cpo = s.cpo := rfl

@[simp] theorem State.setDev_pending (s : State) (v : Device) : (s.setDev v).pending = s.pending := rfl
@[simp] theorem State.setDev_dev (s : State) (v : Device) : (s.setDev v).dev = v := rfl
@[simp] theorem State.setDev_tb (s : State) (v : Device) : (s.setDev v).tb = s.tb := rfl
@[simp] theorem State.setDev_cins (s : State) (v : Device) : (s.setDev v).cins = s.cins := rfl
@[simp] theorem State.setDev_groups (s : State) (v : Device) : (s.setDev v).groups = s.groups := rfl
@[simp] theorem State.setDev_zones (s : State) (v : Device) : (s.setDev v).zones = s.zones := rfl
@[simp] theorem State.setDev_tallies (s : State) (v : Device) : (s.setDev v).tallies = s.tallies := rfl
@[simp] theorem State.setDev_glyphs (s : State) (v : Device) : (s.setDev v).glyphs = s.glyphs := rfl
@[simp] theorem State.setDev_bindings (s : State) (v : Device) : (s.setDev v).bindings = s.bindings := rfl
@[simp] theorem State.setDev_slots (s : State) (v : Device) : (s.setDev v).slots = s.slots := rfl
@[simp] theorem State.setDev_staging (s : State) (v : Device) : (s.setDev v).staging = s.staging := rfl
@[simp] theorem State.setDev_channels (s : State) (v : Device) : (s.setDev v).channels = s.channels := rfl
@[simp] theorem State.setDev_waitQueue (s : State) (v : Device) : (s.setDev v).waitQueue = s.waitQueue := rfl
@[simp] theorem State.setDev_rrNext (s : State) (v : Device) : (s.setDev v).rrNext = s.rrNext := rfl
@[simp] theorem State.setDev_flight (s : State) (v : Device) : (s.setDev v).flight = s.flight := rfl
@[simp] theorem State.setDev_ports (s : State) (v : Device) : (s.setDev v).ports = s.ports := rfl
@[simp] theorem State.setDev_lists (s : State) (v : Device) : (s.setDev v).lists = s.lists := rfl
@[simp] theorem State.setDev_regions (s : State) (v : Device) : (s.setDev v).regions = s.regions := rfl
@[simp] theorem State.setDev_ringU (s : State) (v : Device) : (s.setDev v).ringU = s.ringU := rfl
@[simp] theorem State.setDev_ringB (s : State) (v : Device) : (s.setDev v).ringB = s.ringB := rfl
@[simp] theorem State.setDev_passOver (s : State) (v : Device) : (s.setDev v).passOver = s.passOver := rfl
@[simp] theorem State.setDev_cpo (s : State) (v : Device) : (s.setDev v).cpo = s.cpo := rfl

@[simp] theorem State.setTb_pending (s : State) (v : Timebase) : (s.setTb v).pending = s.pending := rfl
@[simp] theorem State.setTb_dev (s : State) (v : Timebase) : (s.setTb v).dev = s.dev := rfl
@[simp] theorem State.setTb_tb (s : State) (v : Timebase) : (s.setTb v).tb = v := rfl
@[simp] theorem State.setTb_cins (s : State) (v : Timebase) : (s.setTb v).cins = s.cins := rfl
@[simp] theorem State.setTb_groups (s : State) (v : Timebase) : (s.setTb v).groups = s.groups := rfl
@[simp] theorem State.setTb_zones (s : State) (v : Timebase) : (s.setTb v).zones = s.zones := rfl
@[simp] theorem State.setTb_tallies (s : State) (v : Timebase) : (s.setTb v).tallies = s.tallies := rfl
@[simp] theorem State.setTb_glyphs (s : State) (v : Timebase) : (s.setTb v).glyphs = s.glyphs := rfl
@[simp] theorem State.setTb_bindings (s : State) (v : Timebase) : (s.setTb v).bindings = s.bindings := rfl
@[simp] theorem State.setTb_slots (s : State) (v : Timebase) : (s.setTb v).slots = s.slots := rfl
@[simp] theorem State.setTb_staging (s : State) (v : Timebase) : (s.setTb v).staging = s.staging := rfl
@[simp] theorem State.setTb_channels (s : State) (v : Timebase) : (s.setTb v).channels = s.channels := rfl
@[simp] theorem State.setTb_waitQueue (s : State) (v : Timebase) : (s.setTb v).waitQueue = s.waitQueue := rfl
@[simp] theorem State.setTb_rrNext (s : State) (v : Timebase) : (s.setTb v).rrNext = s.rrNext := rfl
@[simp] theorem State.setTb_flight (s : State) (v : Timebase) : (s.setTb v).flight = s.flight := rfl
@[simp] theorem State.setTb_ports (s : State) (v : Timebase) : (s.setTb v).ports = s.ports := rfl
@[simp] theorem State.setTb_lists (s : State) (v : Timebase) : (s.setTb v).lists = s.lists := rfl
@[simp] theorem State.setTb_regions (s : State) (v : Timebase) : (s.setTb v).regions = s.regions := rfl
@[simp] theorem State.setTb_ringU (s : State) (v : Timebase) : (s.setTb v).ringU = s.ringU := rfl
@[simp] theorem State.setTb_ringB (s : State) (v : Timebase) : (s.setTb v).ringB = s.ringB := rfl
@[simp] theorem State.setTb_passOver (s : State) (v : Timebase) : (s.setTb v).passOver = s.passOver := rfl
@[simp] theorem State.setTb_cpo (s : State) (v : Timebase) : (s.setTb v).cpo = s.cpo := rfl

@[simp] theorem State.setCins_pending (s : State) (v : Vector CountInput 8) : (s.setCins v).pending = s.pending := rfl
@[simp] theorem State.setCins_dev (s : State) (v : Vector CountInput 8) : (s.setCins v).dev = s.dev := rfl
@[simp] theorem State.setCins_tb (s : State) (v : Vector CountInput 8) : (s.setCins v).tb = s.tb := rfl
@[simp] theorem State.setCins_cins (s : State) (v : Vector CountInput 8) : (s.setCins v).cins = v := rfl
@[simp] theorem State.setCins_groups (s : State) (v : Vector CountInput 8) : (s.setCins v).groups = s.groups := rfl
@[simp] theorem State.setCins_zones (s : State) (v : Vector CountInput 8) : (s.setCins v).zones = s.zones := rfl
@[simp] theorem State.setCins_tallies (s : State) (v : Vector CountInput 8) : (s.setCins v).tallies = s.tallies := rfl
@[simp] theorem State.setCins_glyphs (s : State) (v : Vector CountInput 8) : (s.setCins v).glyphs = s.glyphs := rfl
@[simp] theorem State.setCins_bindings (s : State) (v : Vector CountInput 8) : (s.setCins v).bindings = s.bindings := rfl
@[simp] theorem State.setCins_slots (s : State) (v : Vector CountInput 8) : (s.setCins v).slots = s.slots := rfl
@[simp] theorem State.setCins_staging (s : State) (v : Vector CountInput 8) : (s.setCins v).staging = s.staging := rfl
@[simp] theorem State.setCins_channels (s : State) (v : Vector CountInput 8) : (s.setCins v).channels = s.channels := rfl
@[simp] theorem State.setCins_waitQueue (s : State) (v : Vector CountInput 8) : (s.setCins v).waitQueue = s.waitQueue := rfl
@[simp] theorem State.setCins_rrNext (s : State) (v : Vector CountInput 8) : (s.setCins v).rrNext = s.rrNext := rfl
@[simp] theorem State.setCins_flight (s : State) (v : Vector CountInput 8) : (s.setCins v).flight = s.flight := rfl
@[simp] theorem State.setCins_ports (s : State) (v : Vector CountInput 8) : (s.setCins v).ports = s.ports := rfl
@[simp] theorem State.setCins_lists (s : State) (v : Vector CountInput 8) : (s.setCins v).lists = s.lists := rfl
@[simp] theorem State.setCins_regions (s : State) (v : Vector CountInput 8) : (s.setCins v).regions = s.regions := rfl
@[simp] theorem State.setCins_ringU (s : State) (v : Vector CountInput 8) : (s.setCins v).ringU = s.ringU := rfl
@[simp] theorem State.setCins_ringB (s : State) (v : Vector CountInput 8) : (s.setCins v).ringB = s.ringB := rfl
@[simp] theorem State.setCins_passOver (s : State) (v : Vector CountInput 8) : (s.setCins v).passOver = s.passOver := rfl
@[simp] theorem State.setCins_cpo (s : State) (v : Vector CountInput 8) : (s.setCins v).cpo = s.cpo := rfl

@[simp] theorem State.setGroups_pending (s : State) (v : Vector BlinkGroup 4) : (s.setGroups v).pending = s.pending := rfl
@[simp] theorem State.setGroups_dev (s : State) (v : Vector BlinkGroup 4) : (s.setGroups v).dev = s.dev := rfl
@[simp] theorem State.setGroups_tb (s : State) (v : Vector BlinkGroup 4) : (s.setGroups v).tb = s.tb := rfl
@[simp] theorem State.setGroups_cins (s : State) (v : Vector BlinkGroup 4) : (s.setGroups v).cins = s.cins := rfl
@[simp] theorem State.setGroups_groups (s : State) (v : Vector BlinkGroup 4) : (s.setGroups v).groups = v := rfl
@[simp] theorem State.setGroups_zones (s : State) (v : Vector BlinkGroup 4) : (s.setGroups v).zones = s.zones := rfl
@[simp] theorem State.setGroups_tallies (s : State) (v : Vector BlinkGroup 4) : (s.setGroups v).tallies = s.tallies := rfl
@[simp] theorem State.setGroups_glyphs (s : State) (v : Vector BlinkGroup 4) : (s.setGroups v).glyphs = s.glyphs := rfl
@[simp] theorem State.setGroups_bindings (s : State) (v : Vector BlinkGroup 4) : (s.setGroups v).bindings = s.bindings := rfl
@[simp] theorem State.setGroups_slots (s : State) (v : Vector BlinkGroup 4) : (s.setGroups v).slots = s.slots := rfl
@[simp] theorem State.setGroups_staging (s : State) (v : Vector BlinkGroup 4) : (s.setGroups v).staging = s.staging := rfl
@[simp] theorem State.setGroups_channels (s : State) (v : Vector BlinkGroup 4) : (s.setGroups v).channels = s.channels := rfl
@[simp] theorem State.setGroups_waitQueue (s : State) (v : Vector BlinkGroup 4) : (s.setGroups v).waitQueue = s.waitQueue := rfl
@[simp] theorem State.setGroups_rrNext (s : State) (v : Vector BlinkGroup 4) : (s.setGroups v).rrNext = s.rrNext := rfl
@[simp] theorem State.setGroups_flight (s : State) (v : Vector BlinkGroup 4) : (s.setGroups v).flight = s.flight := rfl
@[simp] theorem State.setGroups_ports (s : State) (v : Vector BlinkGroup 4) : (s.setGroups v).ports = s.ports := rfl
@[simp] theorem State.setGroups_lists (s : State) (v : Vector BlinkGroup 4) : (s.setGroups v).lists = s.lists := rfl
@[simp] theorem State.setGroups_regions (s : State) (v : Vector BlinkGroup 4) : (s.setGroups v).regions = s.regions := rfl
@[simp] theorem State.setGroups_ringU (s : State) (v : Vector BlinkGroup 4) : (s.setGroups v).ringU = s.ringU := rfl
@[simp] theorem State.setGroups_ringB (s : State) (v : Vector BlinkGroup 4) : (s.setGroups v).ringB = s.ringB := rfl
@[simp] theorem State.setGroups_passOver (s : State) (v : Vector BlinkGroup 4) : (s.setGroups v).passOver = s.passOver := rfl
@[simp] theorem State.setGroups_cpo (s : State) (v : Vector BlinkGroup 4) : (s.setGroups v).cpo = s.cpo := rfl

@[simp] theorem State.setZones_pending (s : State) (v : Vector (Option Zone) 16) : (s.setZones v).pending = s.pending := rfl
@[simp] theorem State.setZones_dev (s : State) (v : Vector (Option Zone) 16) : (s.setZones v).dev = s.dev := rfl
@[simp] theorem State.setZones_tb (s : State) (v : Vector (Option Zone) 16) : (s.setZones v).tb = s.tb := rfl
@[simp] theorem State.setZones_cins (s : State) (v : Vector (Option Zone) 16) : (s.setZones v).cins = s.cins := rfl
@[simp] theorem State.setZones_groups (s : State) (v : Vector (Option Zone) 16) : (s.setZones v).groups = s.groups := rfl
@[simp] theorem State.setZones_zones (s : State) (v : Vector (Option Zone) 16) : (s.setZones v).zones = v := rfl
@[simp] theorem State.setZones_tallies (s : State) (v : Vector (Option Zone) 16) : (s.setZones v).tallies = s.tallies := rfl
@[simp] theorem State.setZones_glyphs (s : State) (v : Vector (Option Zone) 16) : (s.setZones v).glyphs = s.glyphs := rfl
@[simp] theorem State.setZones_bindings (s : State) (v : Vector (Option Zone) 16) : (s.setZones v).bindings = s.bindings := rfl
@[simp] theorem State.setZones_slots (s : State) (v : Vector (Option Zone) 16) : (s.setZones v).slots = s.slots := rfl
@[simp] theorem State.setZones_staging (s : State) (v : Vector (Option Zone) 16) : (s.setZones v).staging = s.staging := rfl
@[simp] theorem State.setZones_channels (s : State) (v : Vector (Option Zone) 16) : (s.setZones v).channels = s.channels := rfl
@[simp] theorem State.setZones_waitQueue (s : State) (v : Vector (Option Zone) 16) : (s.setZones v).waitQueue = s.waitQueue := rfl
@[simp] theorem State.setZones_rrNext (s : State) (v : Vector (Option Zone) 16) : (s.setZones v).rrNext = s.rrNext := rfl
@[simp] theorem State.setZones_flight (s : State) (v : Vector (Option Zone) 16) : (s.setZones v).flight = s.flight := rfl
@[simp] theorem State.setZones_ports (s : State) (v : Vector (Option Zone) 16) : (s.setZones v).ports = s.ports := rfl
@[simp] theorem State.setZones_lists (s : State) (v : Vector (Option Zone) 16) : (s.setZones v).lists = s.lists := rfl
@[simp] theorem State.setZones_regions (s : State) (v : Vector (Option Zone) 16) : (s.setZones v).regions = s.regions := rfl
@[simp] theorem State.setZones_ringU (s : State) (v : Vector (Option Zone) 16) : (s.setZones v).ringU = s.ringU := rfl
@[simp] theorem State.setZones_ringB (s : State) (v : Vector (Option Zone) 16) : (s.setZones v).ringB = s.ringB := rfl
@[simp] theorem State.setZones_passOver (s : State) (v : Vector (Option Zone) 16) : (s.setZones v).passOver = s.passOver := rfl
@[simp] theorem State.setZones_cpo (s : State) (v : Vector (Option Zone) 16) : (s.setZones v).cpo = s.cpo := rfl

@[simp] theorem State.setTallies_pending (s : State) (v : Vector Tally 16) : (s.setTallies v).pending = s.pending := rfl
@[simp] theorem State.setTallies_dev (s : State) (v : Vector Tally 16) : (s.setTallies v).dev = s.dev := rfl
@[simp] theorem State.setTallies_tb (s : State) (v : Vector Tally 16) : (s.setTallies v).tb = s.tb := rfl
@[simp] theorem State.setTallies_cins (s : State) (v : Vector Tally 16) : (s.setTallies v).cins = s.cins := rfl
@[simp] theorem State.setTallies_groups (s : State) (v : Vector Tally 16) : (s.setTallies v).groups = s.groups := rfl
@[simp] theorem State.setTallies_zones (s : State) (v : Vector Tally 16) : (s.setTallies v).zones = s.zones := rfl
@[simp] theorem State.setTallies_tallies (s : State) (v : Vector Tally 16) : (s.setTallies v).tallies = v := rfl
@[simp] theorem State.setTallies_glyphs (s : State) (v : Vector Tally 16) : (s.setTallies v).glyphs = s.glyphs := rfl
@[simp] theorem State.setTallies_bindings (s : State) (v : Vector Tally 16) : (s.setTallies v).bindings = s.bindings := rfl
@[simp] theorem State.setTallies_slots (s : State) (v : Vector Tally 16) : (s.setTallies v).slots = s.slots := rfl
@[simp] theorem State.setTallies_staging (s : State) (v : Vector Tally 16) : (s.setTallies v).staging = s.staging := rfl
@[simp] theorem State.setTallies_channels (s : State) (v : Vector Tally 16) : (s.setTallies v).channels = s.channels := rfl
@[simp] theorem State.setTallies_waitQueue (s : State) (v : Vector Tally 16) : (s.setTallies v).waitQueue = s.waitQueue := rfl
@[simp] theorem State.setTallies_rrNext (s : State) (v : Vector Tally 16) : (s.setTallies v).rrNext = s.rrNext := rfl
@[simp] theorem State.setTallies_flight (s : State) (v : Vector Tally 16) : (s.setTallies v).flight = s.flight := rfl
@[simp] theorem State.setTallies_ports (s : State) (v : Vector Tally 16) : (s.setTallies v).ports = s.ports := rfl
@[simp] theorem State.setTallies_lists (s : State) (v : Vector Tally 16) : (s.setTallies v).lists = s.lists := rfl
@[simp] theorem State.setTallies_regions (s : State) (v : Vector Tally 16) : (s.setTallies v).regions = s.regions := rfl
@[simp] theorem State.setTallies_ringU (s : State) (v : Vector Tally 16) : (s.setTallies v).ringU = s.ringU := rfl
@[simp] theorem State.setTallies_ringB (s : State) (v : Vector Tally 16) : (s.setTallies v).ringB = s.ringB := rfl
@[simp] theorem State.setTallies_passOver (s : State) (v : Vector Tally 16) : (s.setTallies v).passOver = s.passOver := rfl
@[simp] theorem State.setTallies_cpo (s : State) (v : Vector Tally 16) : (s.setTallies v).cpo = s.cpo := rfl

@[simp] theorem State.setGlyphs_pending (s : State) (v : Vector GlyphSet 4) : (s.setGlyphs v).pending = s.pending := rfl
@[simp] theorem State.setGlyphs_dev (s : State) (v : Vector GlyphSet 4) : (s.setGlyphs v).dev = s.dev := rfl
@[simp] theorem State.setGlyphs_tb (s : State) (v : Vector GlyphSet 4) : (s.setGlyphs v).tb = s.tb := rfl
@[simp] theorem State.setGlyphs_cins (s : State) (v : Vector GlyphSet 4) : (s.setGlyphs v).cins = s.cins := rfl
@[simp] theorem State.setGlyphs_groups (s : State) (v : Vector GlyphSet 4) : (s.setGlyphs v).groups = s.groups := rfl
@[simp] theorem State.setGlyphs_zones (s : State) (v : Vector GlyphSet 4) : (s.setGlyphs v).zones = s.zones := rfl
@[simp] theorem State.setGlyphs_tallies (s : State) (v : Vector GlyphSet 4) : (s.setGlyphs v).tallies = s.tallies := rfl
@[simp] theorem State.setGlyphs_glyphs (s : State) (v : Vector GlyphSet 4) : (s.setGlyphs v).glyphs = v := rfl
@[simp] theorem State.setGlyphs_bindings (s : State) (v : Vector GlyphSet 4) : (s.setGlyphs v).bindings = s.bindings := rfl
@[simp] theorem State.setGlyphs_slots (s : State) (v : Vector GlyphSet 4) : (s.setGlyphs v).slots = s.slots := rfl
@[simp] theorem State.setGlyphs_staging (s : State) (v : Vector GlyphSet 4) : (s.setGlyphs v).staging = s.staging := rfl
@[simp] theorem State.setGlyphs_channels (s : State) (v : Vector GlyphSet 4) : (s.setGlyphs v).channels = s.channels := rfl
@[simp] theorem State.setGlyphs_waitQueue (s : State) (v : Vector GlyphSet 4) : (s.setGlyphs v).waitQueue = s.waitQueue := rfl
@[simp] theorem State.setGlyphs_rrNext (s : State) (v : Vector GlyphSet 4) : (s.setGlyphs v).rrNext = s.rrNext := rfl
@[simp] theorem State.setGlyphs_flight (s : State) (v : Vector GlyphSet 4) : (s.setGlyphs v).flight = s.flight := rfl
@[simp] theorem State.setGlyphs_ports (s : State) (v : Vector GlyphSet 4) : (s.setGlyphs v).ports = s.ports := rfl
@[simp] theorem State.setGlyphs_lists (s : State) (v : Vector GlyphSet 4) : (s.setGlyphs v).lists = s.lists := rfl
@[simp] theorem State.setGlyphs_regions (s : State) (v : Vector GlyphSet 4) : (s.setGlyphs v).regions = s.regions := rfl
@[simp] theorem State.setGlyphs_ringU (s : State) (v : Vector GlyphSet 4) : (s.setGlyphs v).ringU = s.ringU := rfl
@[simp] theorem State.setGlyphs_ringB (s : State) (v : Vector GlyphSet 4) : (s.setGlyphs v).ringB = s.ringB := rfl
@[simp] theorem State.setGlyphs_passOver (s : State) (v : Vector GlyphSet 4) : (s.setGlyphs v).passOver = s.passOver := rfl
@[simp] theorem State.setGlyphs_cpo (s : State) (v : Vector GlyphSet 4) : (s.setGlyphs v).cpo = s.cpo := rfl

@[simp] theorem State.setBindings_pending (s : State) (v : Vector (Option Binding) 32) : (s.setBindings v).pending = s.pending := rfl
@[simp] theorem State.setBindings_dev (s : State) (v : Vector (Option Binding) 32) : (s.setBindings v).dev = s.dev := rfl
@[simp] theorem State.setBindings_tb (s : State) (v : Vector (Option Binding) 32) : (s.setBindings v).tb = s.tb := rfl
@[simp] theorem State.setBindings_cins (s : State) (v : Vector (Option Binding) 32) : (s.setBindings v).cins = s.cins := rfl
@[simp] theorem State.setBindings_groups (s : State) (v : Vector (Option Binding) 32) : (s.setBindings v).groups = s.groups := rfl
@[simp] theorem State.setBindings_zones (s : State) (v : Vector (Option Binding) 32) : (s.setBindings v).zones = s.zones := rfl
@[simp] theorem State.setBindings_tallies (s : State) (v : Vector (Option Binding) 32) : (s.setBindings v).tallies = s.tallies := rfl
@[simp] theorem State.setBindings_glyphs (s : State) (v : Vector (Option Binding) 32) : (s.setBindings v).glyphs = s.glyphs := rfl
@[simp] theorem State.setBindings_bindings (s : State) (v : Vector (Option Binding) 32) : (s.setBindings v).bindings = v := rfl
@[simp] theorem State.setBindings_slots (s : State) (v : Vector (Option Binding) 32) : (s.setBindings v).slots = s.slots := rfl
@[simp] theorem State.setBindings_staging (s : State) (v : Vector (Option Binding) 32) : (s.setBindings v).staging = s.staging := rfl
@[simp] theorem State.setBindings_channels (s : State) (v : Vector (Option Binding) 32) : (s.setBindings v).channels = s.channels := rfl
@[simp] theorem State.setBindings_waitQueue (s : State) (v : Vector (Option Binding) 32) : (s.setBindings v).waitQueue = s.waitQueue := rfl
@[simp] theorem State.setBindings_rrNext (s : State) (v : Vector (Option Binding) 32) : (s.setBindings v).rrNext = s.rrNext := rfl
@[simp] theorem State.setBindings_flight (s : State) (v : Vector (Option Binding) 32) : (s.setBindings v).flight = s.flight := rfl
@[simp] theorem State.setBindings_ports (s : State) (v : Vector (Option Binding) 32) : (s.setBindings v).ports = s.ports := rfl
@[simp] theorem State.setBindings_lists (s : State) (v : Vector (Option Binding) 32) : (s.setBindings v).lists = s.lists := rfl
@[simp] theorem State.setBindings_regions (s : State) (v : Vector (Option Binding) 32) : (s.setBindings v).regions = s.regions := rfl
@[simp] theorem State.setBindings_ringU (s : State) (v : Vector (Option Binding) 32) : (s.setBindings v).ringU = s.ringU := rfl
@[simp] theorem State.setBindings_ringB (s : State) (v : Vector (Option Binding) 32) : (s.setBindings v).ringB = s.ringB := rfl
@[simp] theorem State.setBindings_passOver (s : State) (v : Vector (Option Binding) 32) : (s.setBindings v).passOver = s.passOver := rfl
@[simp] theorem State.setBindings_cpo (s : State) (v : Vector (Option Binding) 32) : (s.setBindings v).cpo = s.cpo := rfl

@[simp] theorem State.setSlots_pending (s : State) (v : Vector SlotState 24) : (s.setSlots v).pending = s.pending := rfl
@[simp] theorem State.setSlots_dev (s : State) (v : Vector SlotState 24) : (s.setSlots v).dev = s.dev := rfl
@[simp] theorem State.setSlots_tb (s : State) (v : Vector SlotState 24) : (s.setSlots v).tb = s.tb := rfl
@[simp] theorem State.setSlots_cins (s : State) (v : Vector SlotState 24) : (s.setSlots v).cins = s.cins := rfl
@[simp] theorem State.setSlots_groups (s : State) (v : Vector SlotState 24) : (s.setSlots v).groups = s.groups := rfl
@[simp] theorem State.setSlots_zones (s : State) (v : Vector SlotState 24) : (s.setSlots v).zones = s.zones := rfl
@[simp] theorem State.setSlots_tallies (s : State) (v : Vector SlotState 24) : (s.setSlots v).tallies = s.tallies := rfl
@[simp] theorem State.setSlots_glyphs (s : State) (v : Vector SlotState 24) : (s.setSlots v).glyphs = s.glyphs := rfl
@[simp] theorem State.setSlots_bindings (s : State) (v : Vector SlotState 24) : (s.setSlots v).bindings = s.bindings := rfl
@[simp] theorem State.setSlots_slots (s : State) (v : Vector SlotState 24) : (s.setSlots v).slots = v := rfl
@[simp] theorem State.setSlots_staging (s : State) (v : Vector SlotState 24) : (s.setSlots v).staging = s.staging := rfl
@[simp] theorem State.setSlots_channels (s : State) (v : Vector SlotState 24) : (s.setSlots v).channels = s.channels := rfl
@[simp] theorem State.setSlots_waitQueue (s : State) (v : Vector SlotState 24) : (s.setSlots v).waitQueue = s.waitQueue := rfl
@[simp] theorem State.setSlots_rrNext (s : State) (v : Vector SlotState 24) : (s.setSlots v).rrNext = s.rrNext := rfl
@[simp] theorem State.setSlots_flight (s : State) (v : Vector SlotState 24) : (s.setSlots v).flight = s.flight := rfl
@[simp] theorem State.setSlots_ports (s : State) (v : Vector SlotState 24) : (s.setSlots v).ports = s.ports := rfl
@[simp] theorem State.setSlots_lists (s : State) (v : Vector SlotState 24) : (s.setSlots v).lists = s.lists := rfl
@[simp] theorem State.setSlots_regions (s : State) (v : Vector SlotState 24) : (s.setSlots v).regions = s.regions := rfl
@[simp] theorem State.setSlots_ringU (s : State) (v : Vector SlotState 24) : (s.setSlots v).ringU = s.ringU := rfl
@[simp] theorem State.setSlots_ringB (s : State) (v : Vector SlotState 24) : (s.setSlots v).ringB = s.ringB := rfl
@[simp] theorem State.setSlots_passOver (s : State) (v : Vector SlotState 24) : (s.setSlots v).passOver = s.passOver := rfl
@[simp] theorem State.setSlots_cpo (s : State) (v : Vector SlotState 24) : (s.setSlots v).cpo = s.cpo := rfl

@[simp] theorem State.setStaging_pending (s : State) (v : Memory) : (s.setStaging v).pending = s.pending := rfl
@[simp] theorem State.setStaging_dev (s : State) (v : Memory) : (s.setStaging v).dev = s.dev := rfl
@[simp] theorem State.setStaging_tb (s : State) (v : Memory) : (s.setStaging v).tb = s.tb := rfl
@[simp] theorem State.setStaging_cins (s : State) (v : Memory) : (s.setStaging v).cins = s.cins := rfl
@[simp] theorem State.setStaging_groups (s : State) (v : Memory) : (s.setStaging v).groups = s.groups := rfl
@[simp] theorem State.setStaging_zones (s : State) (v : Memory) : (s.setStaging v).zones = s.zones := rfl
@[simp] theorem State.setStaging_tallies (s : State) (v : Memory) : (s.setStaging v).tallies = s.tallies := rfl
@[simp] theorem State.setStaging_glyphs (s : State) (v : Memory) : (s.setStaging v).glyphs = s.glyphs := rfl
@[simp] theorem State.setStaging_bindings (s : State) (v : Memory) : (s.setStaging v).bindings = s.bindings := rfl
@[simp] theorem State.setStaging_slots (s : State) (v : Memory) : (s.setStaging v).slots = s.slots := rfl
@[simp] theorem State.setStaging_staging (s : State) (v : Memory) : (s.setStaging v).staging = v := rfl
@[simp] theorem State.setStaging_channels (s : State) (v : Memory) : (s.setStaging v).channels = s.channels := rfl
@[simp] theorem State.setStaging_waitQueue (s : State) (v : Memory) : (s.setStaging v).waitQueue = s.waitQueue := rfl
@[simp] theorem State.setStaging_rrNext (s : State) (v : Memory) : (s.setStaging v).rrNext = s.rrNext := rfl
@[simp] theorem State.setStaging_flight (s : State) (v : Memory) : (s.setStaging v).flight = s.flight := rfl
@[simp] theorem State.setStaging_ports (s : State) (v : Memory) : (s.setStaging v).ports = s.ports := rfl
@[simp] theorem State.setStaging_lists (s : State) (v : Memory) : (s.setStaging v).lists = s.lists := rfl
@[simp] theorem State.setStaging_regions (s : State) (v : Memory) : (s.setStaging v).regions = s.regions := rfl
@[simp] theorem State.setStaging_ringU (s : State) (v : Memory) : (s.setStaging v).ringU = s.ringU := rfl
@[simp] theorem State.setStaging_ringB (s : State) (v : Memory) : (s.setStaging v).ringB = s.ringB := rfl
@[simp] theorem State.setStaging_passOver (s : State) (v : Memory) : (s.setStaging v).passOver = s.passOver := rfl
@[simp] theorem State.setStaging_cpo (s : State) (v : Memory) : (s.setStaging v).cpo = s.cpo := rfl

@[simp] theorem State.setChannels_pending (s : State) (v : Vector Channel 4) : (s.setChannels v).pending = s.pending := rfl
@[simp] theorem State.setChannels_dev (s : State) (v : Vector Channel 4) : (s.setChannels v).dev = s.dev := rfl
@[simp] theorem State.setChannels_tb (s : State) (v : Vector Channel 4) : (s.setChannels v).tb = s.tb := rfl
@[simp] theorem State.setChannels_cins (s : State) (v : Vector Channel 4) : (s.setChannels v).cins = s.cins := rfl
@[simp] theorem State.setChannels_groups (s : State) (v : Vector Channel 4) : (s.setChannels v).groups = s.groups := rfl
@[simp] theorem State.setChannels_zones (s : State) (v : Vector Channel 4) : (s.setChannels v).zones = s.zones := rfl
@[simp] theorem State.setChannels_tallies (s : State) (v : Vector Channel 4) : (s.setChannels v).tallies = s.tallies := rfl
@[simp] theorem State.setChannels_glyphs (s : State) (v : Vector Channel 4) : (s.setChannels v).glyphs = s.glyphs := rfl
@[simp] theorem State.setChannels_bindings (s : State) (v : Vector Channel 4) : (s.setChannels v).bindings = s.bindings := rfl
@[simp] theorem State.setChannels_slots (s : State) (v : Vector Channel 4) : (s.setChannels v).slots = s.slots := rfl
@[simp] theorem State.setChannels_staging (s : State) (v : Vector Channel 4) : (s.setChannels v).staging = s.staging := rfl
@[simp] theorem State.setChannels_channels (s : State) (v : Vector Channel 4) : (s.setChannels v).channels = v := rfl
@[simp] theorem State.setChannels_waitQueue (s : State) (v : Vector Channel 4) : (s.setChannels v).waitQueue = s.waitQueue := rfl
@[simp] theorem State.setChannels_rrNext (s : State) (v : Vector Channel 4) : (s.setChannels v).rrNext = s.rrNext := rfl
@[simp] theorem State.setChannels_flight (s : State) (v : Vector Channel 4) : (s.setChannels v).flight = s.flight := rfl
@[simp] theorem State.setChannels_ports (s : State) (v : Vector Channel 4) : (s.setChannels v).ports = s.ports := rfl
@[simp] theorem State.setChannels_lists (s : State) (v : Vector Channel 4) : (s.setChannels v).lists = s.lists := rfl
@[simp] theorem State.setChannels_regions (s : State) (v : Vector Channel 4) : (s.setChannels v).regions = s.regions := rfl
@[simp] theorem State.setChannels_ringU (s : State) (v : Vector Channel 4) : (s.setChannels v).ringU = s.ringU := rfl
@[simp] theorem State.setChannels_ringB (s : State) (v : Vector Channel 4) : (s.setChannels v).ringB = s.ringB := rfl
@[simp] theorem State.setChannels_passOver (s : State) (v : Vector Channel 4) : (s.setChannels v).passOver = s.passOver := rfl
@[simp] theorem State.setChannels_cpo (s : State) (v : Vector Channel 4) : (s.setChannels v).cpo = s.cpo := rfl

@[simp] theorem State.setWaitQueue_pending (s : State) (v : List Operation) : (s.setWaitQueue v).pending = s.pending := rfl
@[simp] theorem State.setWaitQueue_dev (s : State) (v : List Operation) : (s.setWaitQueue v).dev = s.dev := rfl
@[simp] theorem State.setWaitQueue_tb (s : State) (v : List Operation) : (s.setWaitQueue v).tb = s.tb := rfl
@[simp] theorem State.setWaitQueue_cins (s : State) (v : List Operation) : (s.setWaitQueue v).cins = s.cins := rfl
@[simp] theorem State.setWaitQueue_groups (s : State) (v : List Operation) : (s.setWaitQueue v).groups = s.groups := rfl
@[simp] theorem State.setWaitQueue_zones (s : State) (v : List Operation) : (s.setWaitQueue v).zones = s.zones := rfl
@[simp] theorem State.setWaitQueue_tallies (s : State) (v : List Operation) : (s.setWaitQueue v).tallies = s.tallies := rfl
@[simp] theorem State.setWaitQueue_glyphs (s : State) (v : List Operation) : (s.setWaitQueue v).glyphs = s.glyphs := rfl
@[simp] theorem State.setWaitQueue_bindings (s : State) (v : List Operation) : (s.setWaitQueue v).bindings = s.bindings := rfl
@[simp] theorem State.setWaitQueue_slots (s : State) (v : List Operation) : (s.setWaitQueue v).slots = s.slots := rfl
@[simp] theorem State.setWaitQueue_staging (s : State) (v : List Operation) : (s.setWaitQueue v).staging = s.staging := rfl
@[simp] theorem State.setWaitQueue_channels (s : State) (v : List Operation) : (s.setWaitQueue v).channels = s.channels := rfl
@[simp] theorem State.setWaitQueue_waitQueue (s : State) (v : List Operation) : (s.setWaitQueue v).waitQueue = v := rfl
@[simp] theorem State.setWaitQueue_rrNext (s : State) (v : List Operation) : (s.setWaitQueue v).rrNext = s.rrNext := rfl
@[simp] theorem State.setWaitQueue_flight (s : State) (v : List Operation) : (s.setWaitQueue v).flight = s.flight := rfl
@[simp] theorem State.setWaitQueue_ports (s : State) (v : List Operation) : (s.setWaitQueue v).ports = s.ports := rfl
@[simp] theorem State.setWaitQueue_lists (s : State) (v : List Operation) : (s.setWaitQueue v).lists = s.lists := rfl
@[simp] theorem State.setWaitQueue_regions (s : State) (v : List Operation) : (s.setWaitQueue v).regions = s.regions := rfl
@[simp] theorem State.setWaitQueue_ringU (s : State) (v : List Operation) : (s.setWaitQueue v).ringU = s.ringU := rfl
@[simp] theorem State.setWaitQueue_ringB (s : State) (v : List Operation) : (s.setWaitQueue v).ringB = s.ringB := rfl
@[simp] theorem State.setWaitQueue_passOver (s : State) (v : List Operation) : (s.setWaitQueue v).passOver = s.passOver := rfl
@[simp] theorem State.setWaitQueue_cpo (s : State) (v : List Operation) : (s.setWaitQueue v).cpo = s.cpo := rfl

@[simp] theorem State.setRrNext_pending (s : State) (v : Fin 4) : (s.setRrNext v).pending = s.pending := rfl
@[simp] theorem State.setRrNext_dev (s : State) (v : Fin 4) : (s.setRrNext v).dev = s.dev := rfl
@[simp] theorem State.setRrNext_tb (s : State) (v : Fin 4) : (s.setRrNext v).tb = s.tb := rfl
@[simp] theorem State.setRrNext_cins (s : State) (v : Fin 4) : (s.setRrNext v).cins = s.cins := rfl
@[simp] theorem State.setRrNext_groups (s : State) (v : Fin 4) : (s.setRrNext v).groups = s.groups := rfl
@[simp] theorem State.setRrNext_zones (s : State) (v : Fin 4) : (s.setRrNext v).zones = s.zones := rfl
@[simp] theorem State.setRrNext_tallies (s : State) (v : Fin 4) : (s.setRrNext v).tallies = s.tallies := rfl
@[simp] theorem State.setRrNext_glyphs (s : State) (v : Fin 4) : (s.setRrNext v).glyphs = s.glyphs := rfl
@[simp] theorem State.setRrNext_bindings (s : State) (v : Fin 4) : (s.setRrNext v).bindings = s.bindings := rfl
@[simp] theorem State.setRrNext_slots (s : State) (v : Fin 4) : (s.setRrNext v).slots = s.slots := rfl
@[simp] theorem State.setRrNext_staging (s : State) (v : Fin 4) : (s.setRrNext v).staging = s.staging := rfl
@[simp] theorem State.setRrNext_channels (s : State) (v : Fin 4) : (s.setRrNext v).channels = s.channels := rfl
@[simp] theorem State.setRrNext_waitQueue (s : State) (v : Fin 4) : (s.setRrNext v).waitQueue = s.waitQueue := rfl
@[simp] theorem State.setRrNext_rrNext (s : State) (v : Fin 4) : (s.setRrNext v).rrNext = v := rfl
@[simp] theorem State.setRrNext_flight (s : State) (v : Fin 4) : (s.setRrNext v).flight = s.flight := rfl
@[simp] theorem State.setRrNext_ports (s : State) (v : Fin 4) : (s.setRrNext v).ports = s.ports := rfl
@[simp] theorem State.setRrNext_lists (s : State) (v : Fin 4) : (s.setRrNext v).lists = s.lists := rfl
@[simp] theorem State.setRrNext_regions (s : State) (v : Fin 4) : (s.setRrNext v).regions = s.regions := rfl
@[simp] theorem State.setRrNext_ringU (s : State) (v : Fin 4) : (s.setRrNext v).ringU = s.ringU := rfl
@[simp] theorem State.setRrNext_ringB (s : State) (v : Fin 4) : (s.setRrNext v).ringB = s.ringB := rfl
@[simp] theorem State.setRrNext_passOver (s : State) (v : Fin 4) : (s.setRrNext v).passOver = s.passOver := rfl
@[simp] theorem State.setRrNext_cpo (s : State) (v : Fin 4) : (s.setRrNext v).cpo = s.cpo := rfl

@[simp] theorem State.setFlight_pending (s : State) (v : Option Flight) : (s.setFlight v).pending = s.pending := rfl
@[simp] theorem State.setFlight_dev (s : State) (v : Option Flight) : (s.setFlight v).dev = s.dev := rfl
@[simp] theorem State.setFlight_tb (s : State) (v : Option Flight) : (s.setFlight v).tb = s.tb := rfl
@[simp] theorem State.setFlight_cins (s : State) (v : Option Flight) : (s.setFlight v).cins = s.cins := rfl
@[simp] theorem State.setFlight_groups (s : State) (v : Option Flight) : (s.setFlight v).groups = s.groups := rfl
@[simp] theorem State.setFlight_zones (s : State) (v : Option Flight) : (s.setFlight v).zones = s.zones := rfl
@[simp] theorem State.setFlight_tallies (s : State) (v : Option Flight) : (s.setFlight v).tallies = s.tallies := rfl
@[simp] theorem State.setFlight_glyphs (s : State) (v : Option Flight) : (s.setFlight v).glyphs = s.glyphs := rfl
@[simp] theorem State.setFlight_bindings (s : State) (v : Option Flight) : (s.setFlight v).bindings = s.bindings := rfl
@[simp] theorem State.setFlight_slots (s : State) (v : Option Flight) : (s.setFlight v).slots = s.slots := rfl
@[simp] theorem State.setFlight_staging (s : State) (v : Option Flight) : (s.setFlight v).staging = s.staging := rfl
@[simp] theorem State.setFlight_channels (s : State) (v : Option Flight) : (s.setFlight v).channels = s.channels := rfl
@[simp] theorem State.setFlight_waitQueue (s : State) (v : Option Flight) : (s.setFlight v).waitQueue = s.waitQueue := rfl
@[simp] theorem State.setFlight_rrNext (s : State) (v : Option Flight) : (s.setFlight v).rrNext = s.rrNext := rfl
@[simp] theorem State.setFlight_flight (s : State) (v : Option Flight) : (s.setFlight v).flight = v := rfl
@[simp] theorem State.setFlight_ports (s : State) (v : Option Flight) : (s.setFlight v).ports = s.ports := rfl
@[simp] theorem State.setFlight_lists (s : State) (v : Option Flight) : (s.setFlight v).lists = s.lists := rfl
@[simp] theorem State.setFlight_regions (s : State) (v : Option Flight) : (s.setFlight v).regions = s.regions := rfl
@[simp] theorem State.setFlight_ringU (s : State) (v : Option Flight) : (s.setFlight v).ringU = s.ringU := rfl
@[simp] theorem State.setFlight_ringB (s : State) (v : Option Flight) : (s.setFlight v).ringB = s.ringB := rfl
@[simp] theorem State.setFlight_passOver (s : State) (v : Option Flight) : (s.setFlight v).passOver = s.passOver := rfl
@[simp] theorem State.setFlight_cpo (s : State) (v : Option Flight) : (s.setFlight v).cpo = s.cpo := rfl

@[simp] theorem State.setPorts_pending (s : State) (v : Vector Port 4) : (s.setPorts v).pending = s.pending := rfl
@[simp] theorem State.setPorts_dev (s : State) (v : Vector Port 4) : (s.setPorts v).dev = s.dev := rfl
@[simp] theorem State.setPorts_tb (s : State) (v : Vector Port 4) : (s.setPorts v).tb = s.tb := rfl
@[simp] theorem State.setPorts_cins (s : State) (v : Vector Port 4) : (s.setPorts v).cins = s.cins := rfl
@[simp] theorem State.setPorts_groups (s : State) (v : Vector Port 4) : (s.setPorts v).groups = s.groups := rfl
@[simp] theorem State.setPorts_zones (s : State) (v : Vector Port 4) : (s.setPorts v).zones = s.zones := rfl
@[simp] theorem State.setPorts_tallies (s : State) (v : Vector Port 4) : (s.setPorts v).tallies = s.tallies := rfl
@[simp] theorem State.setPorts_glyphs (s : State) (v : Vector Port 4) : (s.setPorts v).glyphs = s.glyphs := rfl
@[simp] theorem State.setPorts_bindings (s : State) (v : Vector Port 4) : (s.setPorts v).bindings = s.bindings := rfl
@[simp] theorem State.setPorts_slots (s : State) (v : Vector Port 4) : (s.setPorts v).slots = s.slots := rfl
@[simp] theorem State.setPorts_staging (s : State) (v : Vector Port 4) : (s.setPorts v).staging = s.staging := rfl
@[simp] theorem State.setPorts_channels (s : State) (v : Vector Port 4) : (s.setPorts v).channels = s.channels := rfl
@[simp] theorem State.setPorts_waitQueue (s : State) (v : Vector Port 4) : (s.setPorts v).waitQueue = s.waitQueue := rfl
@[simp] theorem State.setPorts_rrNext (s : State) (v : Vector Port 4) : (s.setPorts v).rrNext = s.rrNext := rfl
@[simp] theorem State.setPorts_flight (s : State) (v : Vector Port 4) : (s.setPorts v).flight = s.flight := rfl
@[simp] theorem State.setPorts_ports (s : State) (v : Vector Port 4) : (s.setPorts v).ports = v := rfl
@[simp] theorem State.setPorts_lists (s : State) (v : Vector Port 4) : (s.setPorts v).lists = s.lists := rfl
@[simp] theorem State.setPorts_regions (s : State) (v : Vector Port 4) : (s.setPorts v).regions = s.regions := rfl
@[simp] theorem State.setPorts_ringU (s : State) (v : Vector Port 4) : (s.setPorts v).ringU = s.ringU := rfl
@[simp] theorem State.setPorts_ringB (s : State) (v : Vector Port 4) : (s.setPorts v).ringB = s.ringB := rfl
@[simp] theorem State.setPorts_passOver (s : State) (v : Vector Port 4) : (s.setPorts v).passOver = s.passOver := rfl
@[simp] theorem State.setPorts_cpo (s : State) (v : Vector Port 4) : (s.setPorts v).cpo = s.cpo := rfl

@[simp] theorem State.setLists_pending (s : State) (v : Vector (List Entry) 4) : (s.setLists v).pending = s.pending := rfl
@[simp] theorem State.setLists_dev (s : State) (v : Vector (List Entry) 4) : (s.setLists v).dev = s.dev := rfl
@[simp] theorem State.setLists_tb (s : State) (v : Vector (List Entry) 4) : (s.setLists v).tb = s.tb := rfl
@[simp] theorem State.setLists_cins (s : State) (v : Vector (List Entry) 4) : (s.setLists v).cins = s.cins := rfl
@[simp] theorem State.setLists_groups (s : State) (v : Vector (List Entry) 4) : (s.setLists v).groups = s.groups := rfl
@[simp] theorem State.setLists_zones (s : State) (v : Vector (List Entry) 4) : (s.setLists v).zones = s.zones := rfl
@[simp] theorem State.setLists_tallies (s : State) (v : Vector (List Entry) 4) : (s.setLists v).tallies = s.tallies := rfl
@[simp] theorem State.setLists_glyphs (s : State) (v : Vector (List Entry) 4) : (s.setLists v).glyphs = s.glyphs := rfl
@[simp] theorem State.setLists_bindings (s : State) (v : Vector (List Entry) 4) : (s.setLists v).bindings = s.bindings := rfl
@[simp] theorem State.setLists_slots (s : State) (v : Vector (List Entry) 4) : (s.setLists v).slots = s.slots := rfl
@[simp] theorem State.setLists_staging (s : State) (v : Vector (List Entry) 4) : (s.setLists v).staging = s.staging := rfl
@[simp] theorem State.setLists_channels (s : State) (v : Vector (List Entry) 4) : (s.setLists v).channels = s.channels := rfl
@[simp] theorem State.setLists_waitQueue (s : State) (v : Vector (List Entry) 4) : (s.setLists v).waitQueue = s.waitQueue := rfl
@[simp] theorem State.setLists_rrNext (s : State) (v : Vector (List Entry) 4) : (s.setLists v).rrNext = s.rrNext := rfl
@[simp] theorem State.setLists_flight (s : State) (v : Vector (List Entry) 4) : (s.setLists v).flight = s.flight := rfl
@[simp] theorem State.setLists_ports (s : State) (v : Vector (List Entry) 4) : (s.setLists v).ports = s.ports := rfl
@[simp] theorem State.setLists_lists (s : State) (v : Vector (List Entry) 4) : (s.setLists v).lists = v := rfl
@[simp] theorem State.setLists_regions (s : State) (v : Vector (List Entry) 4) : (s.setLists v).regions = s.regions := rfl
@[simp] theorem State.setLists_ringU (s : State) (v : Vector (List Entry) 4) : (s.setLists v).ringU = s.ringU := rfl
@[simp] theorem State.setLists_ringB (s : State) (v : Vector (List Entry) 4) : (s.setLists v).ringB = s.ringB := rfl
@[simp] theorem State.setLists_passOver (s : State) (v : Vector (List Entry) 4) : (s.setLists v).passOver = s.passOver := rfl
@[simp] theorem State.setLists_cpo (s : State) (v : Vector (List Entry) 4) : (s.setLists v).cpo = s.cpo := rfl

@[simp] theorem State.setRegions_pending (s : State) (v : Vector Memory 4) : (s.setRegions v).pending = s.pending := rfl
@[simp] theorem State.setRegions_dev (s : State) (v : Vector Memory 4) : (s.setRegions v).dev = s.dev := rfl
@[simp] theorem State.setRegions_tb (s : State) (v : Vector Memory 4) : (s.setRegions v).tb = s.tb := rfl
@[simp] theorem State.setRegions_cins (s : State) (v : Vector Memory 4) : (s.setRegions v).cins = s.cins := rfl
@[simp] theorem State.setRegions_groups (s : State) (v : Vector Memory 4) : (s.setRegions v).groups = s.groups := rfl
@[simp] theorem State.setRegions_zones (s : State) (v : Vector Memory 4) : (s.setRegions v).zones = s.zones := rfl
@[simp] theorem State.setRegions_tallies (s : State) (v : Vector Memory 4) : (s.setRegions v).tallies = s.tallies := rfl
@[simp] theorem State.setRegions_glyphs (s : State) (v : Vector Memory 4) : (s.setRegions v).glyphs = s.glyphs := rfl
@[simp] theorem State.setRegions_bindings (s : State) (v : Vector Memory 4) : (s.setRegions v).bindings = s.bindings := rfl
@[simp] theorem State.setRegions_slots (s : State) (v : Vector Memory 4) : (s.setRegions v).slots = s.slots := rfl
@[simp] theorem State.setRegions_staging (s : State) (v : Vector Memory 4) : (s.setRegions v).staging = s.staging := rfl
@[simp] theorem State.setRegions_channels (s : State) (v : Vector Memory 4) : (s.setRegions v).channels = s.channels := rfl
@[simp] theorem State.setRegions_waitQueue (s : State) (v : Vector Memory 4) : (s.setRegions v).waitQueue = s.waitQueue := rfl
@[simp] theorem State.setRegions_rrNext (s : State) (v : Vector Memory 4) : (s.setRegions v).rrNext = s.rrNext := rfl
@[simp] theorem State.setRegions_flight (s : State) (v : Vector Memory 4) : (s.setRegions v).flight = s.flight := rfl
@[simp] theorem State.setRegions_ports (s : State) (v : Vector Memory 4) : (s.setRegions v).ports = s.ports := rfl
@[simp] theorem State.setRegions_lists (s : State) (v : Vector Memory 4) : (s.setRegions v).lists = s.lists := rfl
@[simp] theorem State.setRegions_regions (s : State) (v : Vector Memory 4) : (s.setRegions v).regions = v := rfl
@[simp] theorem State.setRegions_ringU (s : State) (v : Vector Memory 4) : (s.setRegions v).ringU = s.ringU := rfl
@[simp] theorem State.setRegions_ringB (s : State) (v : Vector Memory 4) : (s.setRegions v).ringB = s.ringB := rfl
@[simp] theorem State.setRegions_passOver (s : State) (v : Vector Memory 4) : (s.setRegions v).passOver = s.passOver := rfl
@[simp] theorem State.setRegions_cpo (s : State) (v : Vector Memory 4) : (s.setRegions v).cpo = s.cpo := rfl

@[simp] theorem State.setRingU_pending (s : State) (v : Ring) : (s.setRingU v).pending = s.pending := rfl
@[simp] theorem State.setRingU_dev (s : State) (v : Ring) : (s.setRingU v).dev = s.dev := rfl
@[simp] theorem State.setRingU_tb (s : State) (v : Ring) : (s.setRingU v).tb = s.tb := rfl
@[simp] theorem State.setRingU_cins (s : State) (v : Ring) : (s.setRingU v).cins = s.cins := rfl
@[simp] theorem State.setRingU_groups (s : State) (v : Ring) : (s.setRingU v).groups = s.groups := rfl
@[simp] theorem State.setRingU_zones (s : State) (v : Ring) : (s.setRingU v).zones = s.zones := rfl
@[simp] theorem State.setRingU_tallies (s : State) (v : Ring) : (s.setRingU v).tallies = s.tallies := rfl
@[simp] theorem State.setRingU_glyphs (s : State) (v : Ring) : (s.setRingU v).glyphs = s.glyphs := rfl
@[simp] theorem State.setRingU_bindings (s : State) (v : Ring) : (s.setRingU v).bindings = s.bindings := rfl
@[simp] theorem State.setRingU_slots (s : State) (v : Ring) : (s.setRingU v).slots = s.slots := rfl
@[simp] theorem State.setRingU_staging (s : State) (v : Ring) : (s.setRingU v).staging = s.staging := rfl
@[simp] theorem State.setRingU_channels (s : State) (v : Ring) : (s.setRingU v).channels = s.channels := rfl
@[simp] theorem State.setRingU_waitQueue (s : State) (v : Ring) : (s.setRingU v).waitQueue = s.waitQueue := rfl
@[simp] theorem State.setRingU_rrNext (s : State) (v : Ring) : (s.setRingU v).rrNext = s.rrNext := rfl
@[simp] theorem State.setRingU_flight (s : State) (v : Ring) : (s.setRingU v).flight = s.flight := rfl
@[simp] theorem State.setRingU_ports (s : State) (v : Ring) : (s.setRingU v).ports = s.ports := rfl
@[simp] theorem State.setRingU_lists (s : State) (v : Ring) : (s.setRingU v).lists = s.lists := rfl
@[simp] theorem State.setRingU_regions (s : State) (v : Ring) : (s.setRingU v).regions = s.regions := rfl
@[simp] theorem State.setRingU_ringU (s : State) (v : Ring) : (s.setRingU v).ringU = v := rfl
@[simp] theorem State.setRingU_ringB (s : State) (v : Ring) : (s.setRingU v).ringB = s.ringB := rfl
@[simp] theorem State.setRingU_passOver (s : State) (v : Ring) : (s.setRingU v).passOver = s.passOver := rfl
@[simp] theorem State.setRingU_cpo (s : State) (v : Ring) : (s.setRingU v).cpo = s.cpo := rfl

@[simp] theorem State.setRingB_pending (s : State) (v : Ring) : (s.setRingB v).pending = s.pending := rfl
@[simp] theorem State.setRingB_dev (s : State) (v : Ring) : (s.setRingB v).dev = s.dev := rfl
@[simp] theorem State.setRingB_tb (s : State) (v : Ring) : (s.setRingB v).tb = s.tb := rfl
@[simp] theorem State.setRingB_cins (s : State) (v : Ring) : (s.setRingB v).cins = s.cins := rfl
@[simp] theorem State.setRingB_groups (s : State) (v : Ring) : (s.setRingB v).groups = s.groups := rfl
@[simp] theorem State.setRingB_zones (s : State) (v : Ring) : (s.setRingB v).zones = s.zones := rfl
@[simp] theorem State.setRingB_tallies (s : State) (v : Ring) : (s.setRingB v).tallies = s.tallies := rfl
@[simp] theorem State.setRingB_glyphs (s : State) (v : Ring) : (s.setRingB v).glyphs = s.glyphs := rfl
@[simp] theorem State.setRingB_bindings (s : State) (v : Ring) : (s.setRingB v).bindings = s.bindings := rfl
@[simp] theorem State.setRingB_slots (s : State) (v : Ring) : (s.setRingB v).slots = s.slots := rfl
@[simp] theorem State.setRingB_staging (s : State) (v : Ring) : (s.setRingB v).staging = s.staging := rfl
@[simp] theorem State.setRingB_channels (s : State) (v : Ring) : (s.setRingB v).channels = s.channels := rfl
@[simp] theorem State.setRingB_waitQueue (s : State) (v : Ring) : (s.setRingB v).waitQueue = s.waitQueue := rfl
@[simp] theorem State.setRingB_rrNext (s : State) (v : Ring) : (s.setRingB v).rrNext = s.rrNext := rfl
@[simp] theorem State.setRingB_flight (s : State) (v : Ring) : (s.setRingB v).flight = s.flight := rfl
@[simp] theorem State.setRingB_ports (s : State) (v : Ring) : (s.setRingB v).ports = s.ports := rfl
@[simp] theorem State.setRingB_lists (s : State) (v : Ring) : (s.setRingB v).lists = s.lists := rfl
@[simp] theorem State.setRingB_regions (s : State) (v : Ring) : (s.setRingB v).regions = s.regions := rfl
@[simp] theorem State.setRingB_ringU (s : State) (v : Ring) : (s.setRingB v).ringU = s.ringU := rfl
@[simp] theorem State.setRingB_ringB (s : State) (v : Ring) : (s.setRingB v).ringB = v := rfl
@[simp] theorem State.setRingB_passOver (s : State) (v : Ring) : (s.setRingB v).passOver = s.passOver := rfl
@[simp] theorem State.setRingB_cpo (s : State) (v : Ring) : (s.setRingB v).cpo = s.cpo := rfl

@[simp] theorem State.setPassOver_pending (s : State) (v : Nat) : (s.setPassOver v).pending = s.pending := rfl
@[simp] theorem State.setPassOver_dev (s : State) (v : Nat) : (s.setPassOver v).dev = s.dev := rfl
@[simp] theorem State.setPassOver_tb (s : State) (v : Nat) : (s.setPassOver v).tb = s.tb := rfl
@[simp] theorem State.setPassOver_cins (s : State) (v : Nat) : (s.setPassOver v).cins = s.cins := rfl
@[simp] theorem State.setPassOver_groups (s : State) (v : Nat) : (s.setPassOver v).groups = s.groups := rfl
@[simp] theorem State.setPassOver_zones (s : State) (v : Nat) : (s.setPassOver v).zones = s.zones := rfl
@[simp] theorem State.setPassOver_tallies (s : State) (v : Nat) : (s.setPassOver v).tallies = s.tallies := rfl
@[simp] theorem State.setPassOver_glyphs (s : State) (v : Nat) : (s.setPassOver v).glyphs = s.glyphs := rfl
@[simp] theorem State.setPassOver_bindings (s : State) (v : Nat) : (s.setPassOver v).bindings = s.bindings := rfl
@[simp] theorem State.setPassOver_slots (s : State) (v : Nat) : (s.setPassOver v).slots = s.slots := rfl
@[simp] theorem State.setPassOver_staging (s : State) (v : Nat) : (s.setPassOver v).staging = s.staging := rfl
@[simp] theorem State.setPassOver_channels (s : State) (v : Nat) : (s.setPassOver v).channels = s.channels := rfl
@[simp] theorem State.setPassOver_waitQueue (s : State) (v : Nat) : (s.setPassOver v).waitQueue = s.waitQueue := rfl
@[simp] theorem State.setPassOver_rrNext (s : State) (v : Nat) : (s.setPassOver v).rrNext = s.rrNext := rfl
@[simp] theorem State.setPassOver_flight (s : State) (v : Nat) : (s.setPassOver v).flight = s.flight := rfl
@[simp] theorem State.setPassOver_ports (s : State) (v : Nat) : (s.setPassOver v).ports = s.ports := rfl
@[simp] theorem State.setPassOver_lists (s : State) (v : Nat) : (s.setPassOver v).lists = s.lists := rfl
@[simp] theorem State.setPassOver_regions (s : State) (v : Nat) : (s.setPassOver v).regions = s.regions := rfl
@[simp] theorem State.setPassOver_ringU (s : State) (v : Nat) : (s.setPassOver v).ringU = s.ringU := rfl
@[simp] theorem State.setPassOver_ringB (s : State) (v : Nat) : (s.setPassOver v).ringB = s.ringB := rfl
@[simp] theorem State.setPassOver_passOver (s : State) (v : Nat) : (s.setPassOver v).passOver = v := rfl
@[simp] theorem State.setPassOver_cpo (s : State) (v : Nat) : (s.setPassOver v).cpo = s.cpo := rfl

@[simp] theorem State.setCpo_pending (s : State) (v : Poster) : (s.setCpo v).pending = s.pending := rfl
@[simp] theorem State.setCpo_dev (s : State) (v : Poster) : (s.setCpo v).dev = s.dev := rfl
@[simp] theorem State.setCpo_tb (s : State) (v : Poster) : (s.setCpo v).tb = s.tb := rfl
@[simp] theorem State.setCpo_cins (s : State) (v : Poster) : (s.setCpo v).cins = s.cins := rfl
@[simp] theorem State.setCpo_groups (s : State) (v : Poster) : (s.setCpo v).groups = s.groups := rfl
@[simp] theorem State.setCpo_zones (s : State) (v : Poster) : (s.setCpo v).zones = s.zones := rfl
@[simp] theorem State.setCpo_tallies (s : State) (v : Poster) : (s.setCpo v).tallies = s.tallies := rfl
@[simp] theorem State.setCpo_glyphs (s : State) (v : Poster) : (s.setCpo v).glyphs = s.glyphs := rfl
@[simp] theorem State.setCpo_bindings (s : State) (v : Poster) : (s.setCpo v).bindings = s.bindings := rfl
@[simp] theorem State.setCpo_slots (s : State) (v : Poster) : (s.setCpo v).slots = s.slots := rfl
@[simp] theorem State.setCpo_staging (s : State) (v : Poster) : (s.setCpo v).staging = s.staging := rfl
@[simp] theorem State.setCpo_channels (s : State) (v : Poster) : (s.setCpo v).channels = s.channels := rfl
@[simp] theorem State.setCpo_waitQueue (s : State) (v : Poster) : (s.setCpo v).waitQueue = s.waitQueue := rfl
@[simp] theorem State.setCpo_rrNext (s : State) (v : Poster) : (s.setCpo v).rrNext = s.rrNext := rfl
@[simp] theorem State.setCpo_flight (s : State) (v : Poster) : (s.setCpo v).flight = s.flight := rfl
@[simp] theorem State.setCpo_ports (s : State) (v : Poster) : (s.setCpo v).ports = s.ports := rfl
@[simp] theorem State.setCpo_lists (s : State) (v : Poster) : (s.setCpo v).lists = s.lists := rfl
@[simp] theorem State.setCpo_regions (s : State) (v : Poster) : (s.setCpo v).regions = s.regions := rfl
@[simp] theorem State.setCpo_ringU (s : State) (v : Poster) : (s.setCpo v).ringU = s.ringU := rfl
@[simp] theorem State.setCpo_ringB (s : State) (v : Poster) : (s.setCpo v).ringB = s.ringB := rfl
@[simp] theorem State.setCpo_passOver (s : State) (v : Poster) : (s.setCpo v).passOver = s.passOver := rfl
@[simp] theorem State.setCpo_cpo (s : State) (v : Poster) : (s.setCpo v).cpo = v := rfl

/-! ## Setters and accessors -/

@[simp] theorem State.setPending_cin (s : State) (v : List Instr) (i : LineId) : (s.setPending v).cin i = s.cin i := rfl
@[simp] theorem State.setPending_group (s : State) (v : List Instr) (i : Fin 4) : (s.setPending v).group i = s.group i := rfl
@[simp] theorem State.setPending_zone (s : State) (v : List Instr) (i : Fin 16) : (s.setPending v).zone i = s.zone i := rfl
@[simp] theorem State.setPending_tally (s : State) (v : List Instr) (i : TallyId) : (s.setPending v).tally i = s.tally i := rfl
@[simp] theorem State.setPending_glyph (s : State) (v : List Instr) (i : Fin 4) : (s.setPending v).glyph i = s.glyph i := rfl
@[simp] theorem State.setPending_channel (s : State) (v : List Instr) (i : Fin 4) : (s.setPending v).channel i = s.channel i := rfl
@[simp] theorem State.setPending_port (s : State) (v : List Instr) (i : PanelId) : (s.setPending v).port i = s.port i := rfl
@[simp] theorem State.setPending_list (s : State) (v : List Instr) (i : PanelId) : (s.setPending v).list i = s.list i := rfl
@[simp] theorem State.setPending_region (s : State) (v : List Instr) (i : PanelId) : (s.setPending v).region i = s.region i := rfl
@[simp] theorem State.setPending_slot (s : State) (v : List Instr) (i : Fin 24) : (s.setPending v).slot i = s.slot i := rfl
@[simp] theorem State.setPending_ring (s : State) (v : List Instr) (r : RingId) : (s.setPending v).ring r = s.ring r := by cases r <;> rfl
@[simp] theorem State.setPending_binding (s : State) (v : List Instr) (i : TallyId) (k : Fin 2) : (s.setPending v).binding i k = s.binding i k := rfl

@[simp] theorem State.setDev_cin (s : State) (v : Device) (i : LineId) : (s.setDev v).cin i = s.cin i := rfl
@[simp] theorem State.setDev_group (s : State) (v : Device) (i : Fin 4) : (s.setDev v).group i = s.group i := rfl
@[simp] theorem State.setDev_zone (s : State) (v : Device) (i : Fin 16) : (s.setDev v).zone i = s.zone i := rfl
@[simp] theorem State.setDev_tally (s : State) (v : Device) (i : TallyId) : (s.setDev v).tally i = s.tally i := rfl
@[simp] theorem State.setDev_glyph (s : State) (v : Device) (i : Fin 4) : (s.setDev v).glyph i = s.glyph i := rfl
@[simp] theorem State.setDev_channel (s : State) (v : Device) (i : Fin 4) : (s.setDev v).channel i = s.channel i := rfl
@[simp] theorem State.setDev_port (s : State) (v : Device) (i : PanelId) : (s.setDev v).port i = s.port i := rfl
@[simp] theorem State.setDev_list (s : State) (v : Device) (i : PanelId) : (s.setDev v).list i = s.list i := rfl
@[simp] theorem State.setDev_region (s : State) (v : Device) (i : PanelId) : (s.setDev v).region i = s.region i := rfl
@[simp] theorem State.setDev_slot (s : State) (v : Device) (i : Fin 24) : (s.setDev v).slot i = s.slot i := rfl
@[simp] theorem State.setDev_ring (s : State) (v : Device) (r : RingId) : (s.setDev v).ring r = s.ring r := by cases r <;> rfl
@[simp] theorem State.setDev_binding (s : State) (v : Device) (i : TallyId) (k : Fin 2) : (s.setDev v).binding i k = s.binding i k := rfl

@[simp] theorem State.setTb_cin (s : State) (v : Timebase) (i : LineId) : (s.setTb v).cin i = s.cin i := rfl
@[simp] theorem State.setTb_group (s : State) (v : Timebase) (i : Fin 4) : (s.setTb v).group i = s.group i := rfl
@[simp] theorem State.setTb_zone (s : State) (v : Timebase) (i : Fin 16) : (s.setTb v).zone i = s.zone i := rfl
@[simp] theorem State.setTb_tally (s : State) (v : Timebase) (i : TallyId) : (s.setTb v).tally i = s.tally i := rfl
@[simp] theorem State.setTb_glyph (s : State) (v : Timebase) (i : Fin 4) : (s.setTb v).glyph i = s.glyph i := rfl
@[simp] theorem State.setTb_channel (s : State) (v : Timebase) (i : Fin 4) : (s.setTb v).channel i = s.channel i := rfl
@[simp] theorem State.setTb_port (s : State) (v : Timebase) (i : PanelId) : (s.setTb v).port i = s.port i := rfl
@[simp] theorem State.setTb_list (s : State) (v : Timebase) (i : PanelId) : (s.setTb v).list i = s.list i := rfl
@[simp] theorem State.setTb_region (s : State) (v : Timebase) (i : PanelId) : (s.setTb v).region i = s.region i := rfl
@[simp] theorem State.setTb_slot (s : State) (v : Timebase) (i : Fin 24) : (s.setTb v).slot i = s.slot i := rfl
@[simp] theorem State.setTb_ring (s : State) (v : Timebase) (r : RingId) : (s.setTb v).ring r = s.ring r := by cases r <;> rfl
@[simp] theorem State.setTb_binding (s : State) (v : Timebase) (i : TallyId) (k : Fin 2) : (s.setTb v).binding i k = s.binding i k := rfl

@[simp] theorem State.setCins_cin (s : State) (v : Vector CountInput 8) (i : LineId) : (s.setCins v).cin i = v[i] := rfl
@[simp] theorem State.setCins_group (s : State) (v : Vector CountInput 8) (i : Fin 4) : (s.setCins v).group i = s.group i := rfl
@[simp] theorem State.setCins_zone (s : State) (v : Vector CountInput 8) (i : Fin 16) : (s.setCins v).zone i = s.zone i := rfl
@[simp] theorem State.setCins_tally (s : State) (v : Vector CountInput 8) (i : TallyId) : (s.setCins v).tally i = s.tally i := rfl
@[simp] theorem State.setCins_glyph (s : State) (v : Vector CountInput 8) (i : Fin 4) : (s.setCins v).glyph i = s.glyph i := rfl
@[simp] theorem State.setCins_channel (s : State) (v : Vector CountInput 8) (i : Fin 4) : (s.setCins v).channel i = s.channel i := rfl
@[simp] theorem State.setCins_port (s : State) (v : Vector CountInput 8) (i : PanelId) : (s.setCins v).port i = s.port i := rfl
@[simp] theorem State.setCins_list (s : State) (v : Vector CountInput 8) (i : PanelId) : (s.setCins v).list i = s.list i := rfl
@[simp] theorem State.setCins_region (s : State) (v : Vector CountInput 8) (i : PanelId) : (s.setCins v).region i = s.region i := rfl
@[simp] theorem State.setCins_slot (s : State) (v : Vector CountInput 8) (i : Fin 24) : (s.setCins v).slot i = s.slot i := rfl
@[simp] theorem State.setCins_ring (s : State) (v : Vector CountInput 8) (r : RingId) : (s.setCins v).ring r = s.ring r := by cases r <;> rfl
@[simp] theorem State.setCins_binding (s : State) (v : Vector CountInput 8) (i : TallyId) (k : Fin 2) : (s.setCins v).binding i k = s.binding i k := rfl

@[simp] theorem State.setGroups_cin (s : State) (v : Vector BlinkGroup 4) (i : LineId) : (s.setGroups v).cin i = s.cin i := rfl
@[simp] theorem State.setGroups_group (s : State) (v : Vector BlinkGroup 4) (i : Fin 4) : (s.setGroups v).group i = v[i] := rfl
@[simp] theorem State.setGroups_zone (s : State) (v : Vector BlinkGroup 4) (i : Fin 16) : (s.setGroups v).zone i = s.zone i := rfl
@[simp] theorem State.setGroups_tally (s : State) (v : Vector BlinkGroup 4) (i : TallyId) : (s.setGroups v).tally i = s.tally i := rfl
@[simp] theorem State.setGroups_glyph (s : State) (v : Vector BlinkGroup 4) (i : Fin 4) : (s.setGroups v).glyph i = s.glyph i := rfl
@[simp] theorem State.setGroups_channel (s : State) (v : Vector BlinkGroup 4) (i : Fin 4) : (s.setGroups v).channel i = s.channel i := rfl
@[simp] theorem State.setGroups_port (s : State) (v : Vector BlinkGroup 4) (i : PanelId) : (s.setGroups v).port i = s.port i := rfl
@[simp] theorem State.setGroups_list (s : State) (v : Vector BlinkGroup 4) (i : PanelId) : (s.setGroups v).list i = s.list i := rfl
@[simp] theorem State.setGroups_region (s : State) (v : Vector BlinkGroup 4) (i : PanelId) : (s.setGroups v).region i = s.region i := rfl
@[simp] theorem State.setGroups_slot (s : State) (v : Vector BlinkGroup 4) (i : Fin 24) : (s.setGroups v).slot i = s.slot i := rfl
@[simp] theorem State.setGroups_ring (s : State) (v : Vector BlinkGroup 4) (r : RingId) : (s.setGroups v).ring r = s.ring r := by cases r <;> rfl
@[simp] theorem State.setGroups_binding (s : State) (v : Vector BlinkGroup 4) (i : TallyId) (k : Fin 2) : (s.setGroups v).binding i k = s.binding i k := rfl

@[simp] theorem State.setZones_cin (s : State) (v : Vector (Option Zone) 16) (i : LineId) : (s.setZones v).cin i = s.cin i := rfl
@[simp] theorem State.setZones_group (s : State) (v : Vector (Option Zone) 16) (i : Fin 4) : (s.setZones v).group i = s.group i := rfl
@[simp] theorem State.setZones_zone (s : State) (v : Vector (Option Zone) 16) (i : Fin 16) : (s.setZones v).zone i = v[i] := rfl
@[simp] theorem State.setZones_tally (s : State) (v : Vector (Option Zone) 16) (i : TallyId) : (s.setZones v).tally i = s.tally i := rfl
@[simp] theorem State.setZones_glyph (s : State) (v : Vector (Option Zone) 16) (i : Fin 4) : (s.setZones v).glyph i = s.glyph i := rfl
@[simp] theorem State.setZones_channel (s : State) (v : Vector (Option Zone) 16) (i : Fin 4) : (s.setZones v).channel i = s.channel i := rfl
@[simp] theorem State.setZones_port (s : State) (v : Vector (Option Zone) 16) (i : PanelId) : (s.setZones v).port i = s.port i := rfl
@[simp] theorem State.setZones_list (s : State) (v : Vector (Option Zone) 16) (i : PanelId) : (s.setZones v).list i = s.list i := rfl
@[simp] theorem State.setZones_region (s : State) (v : Vector (Option Zone) 16) (i : PanelId) : (s.setZones v).region i = s.region i := rfl
@[simp] theorem State.setZones_slot (s : State) (v : Vector (Option Zone) 16) (i : Fin 24) : (s.setZones v).slot i = s.slot i := rfl
@[simp] theorem State.setZones_ring (s : State) (v : Vector (Option Zone) 16) (r : RingId) : (s.setZones v).ring r = s.ring r := by cases r <;> rfl
@[simp] theorem State.setZones_binding (s : State) (v : Vector (Option Zone) 16) (i : TallyId) (k : Fin 2) : (s.setZones v).binding i k = s.binding i k := rfl

@[simp] theorem State.setTallies_cin (s : State) (v : Vector Tally 16) (i : LineId) : (s.setTallies v).cin i = s.cin i := rfl
@[simp] theorem State.setTallies_group (s : State) (v : Vector Tally 16) (i : Fin 4) : (s.setTallies v).group i = s.group i := rfl
@[simp] theorem State.setTallies_zone (s : State) (v : Vector Tally 16) (i : Fin 16) : (s.setTallies v).zone i = s.zone i := rfl
@[simp] theorem State.setTallies_tally (s : State) (v : Vector Tally 16) (i : TallyId) : (s.setTallies v).tally i = v[i] := rfl
@[simp] theorem State.setTallies_glyph (s : State) (v : Vector Tally 16) (i : Fin 4) : (s.setTallies v).glyph i = s.glyph i := rfl
@[simp] theorem State.setTallies_channel (s : State) (v : Vector Tally 16) (i : Fin 4) : (s.setTallies v).channel i = s.channel i := rfl
@[simp] theorem State.setTallies_port (s : State) (v : Vector Tally 16) (i : PanelId) : (s.setTallies v).port i = s.port i := rfl
@[simp] theorem State.setTallies_list (s : State) (v : Vector Tally 16) (i : PanelId) : (s.setTallies v).list i = s.list i := rfl
@[simp] theorem State.setTallies_region (s : State) (v : Vector Tally 16) (i : PanelId) : (s.setTallies v).region i = s.region i := rfl
@[simp] theorem State.setTallies_slot (s : State) (v : Vector Tally 16) (i : Fin 24) : (s.setTallies v).slot i = s.slot i := rfl
@[simp] theorem State.setTallies_ring (s : State) (v : Vector Tally 16) (r : RingId) : (s.setTallies v).ring r = s.ring r := by cases r <;> rfl
@[simp] theorem State.setTallies_binding (s : State) (v : Vector Tally 16) (i : TallyId) (k : Fin 2) : (s.setTallies v).binding i k = s.binding i k := rfl

@[simp] theorem State.setGlyphs_cin (s : State) (v : Vector GlyphSet 4) (i : LineId) : (s.setGlyphs v).cin i = s.cin i := rfl
@[simp] theorem State.setGlyphs_group (s : State) (v : Vector GlyphSet 4) (i : Fin 4) : (s.setGlyphs v).group i = s.group i := rfl
@[simp] theorem State.setGlyphs_zone (s : State) (v : Vector GlyphSet 4) (i : Fin 16) : (s.setGlyphs v).zone i = s.zone i := rfl
@[simp] theorem State.setGlyphs_tally (s : State) (v : Vector GlyphSet 4) (i : TallyId) : (s.setGlyphs v).tally i = s.tally i := rfl
@[simp] theorem State.setGlyphs_glyph (s : State) (v : Vector GlyphSet 4) (i : Fin 4) : (s.setGlyphs v).glyph i = v[i] := rfl
@[simp] theorem State.setGlyphs_channel (s : State) (v : Vector GlyphSet 4) (i : Fin 4) : (s.setGlyphs v).channel i = s.channel i := rfl
@[simp] theorem State.setGlyphs_port (s : State) (v : Vector GlyphSet 4) (i : PanelId) : (s.setGlyphs v).port i = s.port i := rfl
@[simp] theorem State.setGlyphs_list (s : State) (v : Vector GlyphSet 4) (i : PanelId) : (s.setGlyphs v).list i = s.list i := rfl
@[simp] theorem State.setGlyphs_region (s : State) (v : Vector GlyphSet 4) (i : PanelId) : (s.setGlyphs v).region i = s.region i := rfl
@[simp] theorem State.setGlyphs_slot (s : State) (v : Vector GlyphSet 4) (i : Fin 24) : (s.setGlyphs v).slot i = s.slot i := rfl
@[simp] theorem State.setGlyphs_ring (s : State) (v : Vector GlyphSet 4) (r : RingId) : (s.setGlyphs v).ring r = s.ring r := by cases r <;> rfl
@[simp] theorem State.setGlyphs_binding (s : State) (v : Vector GlyphSet 4) (i : TallyId) (k : Fin 2) : (s.setGlyphs v).binding i k = s.binding i k := rfl

@[simp] theorem State.setBindings_cin (s : State) (v : Vector (Option Binding) 32) (i : LineId) : (s.setBindings v).cin i = s.cin i := rfl
@[simp] theorem State.setBindings_group (s : State) (v : Vector (Option Binding) 32) (i : Fin 4) : (s.setBindings v).group i = s.group i := rfl
@[simp] theorem State.setBindings_zone (s : State) (v : Vector (Option Binding) 32) (i : Fin 16) : (s.setBindings v).zone i = s.zone i := rfl
@[simp] theorem State.setBindings_tally (s : State) (v : Vector (Option Binding) 32) (i : TallyId) : (s.setBindings v).tally i = s.tally i := rfl
@[simp] theorem State.setBindings_glyph (s : State) (v : Vector (Option Binding) 32) (i : Fin 4) : (s.setBindings v).glyph i = s.glyph i := rfl
@[simp] theorem State.setBindings_channel (s : State) (v : Vector (Option Binding) 32) (i : Fin 4) : (s.setBindings v).channel i = s.channel i := rfl
@[simp] theorem State.setBindings_port (s : State) (v : Vector (Option Binding) 32) (i : PanelId) : (s.setBindings v).port i = s.port i := rfl
@[simp] theorem State.setBindings_list (s : State) (v : Vector (Option Binding) 32) (i : PanelId) : (s.setBindings v).list i = s.list i := rfl
@[simp] theorem State.setBindings_region (s : State) (v : Vector (Option Binding) 32) (i : PanelId) : (s.setBindings v).region i = s.region i := rfl
@[simp] theorem State.setBindings_slot (s : State) (v : Vector (Option Binding) 32) (i : Fin 24) : (s.setBindings v).slot i = s.slot i := rfl
@[simp] theorem State.setBindings_ring (s : State) (v : Vector (Option Binding) 32) (r : RingId) : (s.setBindings v).ring r = s.ring r := by cases r <;> rfl
@[simp] theorem State.setBindings_binding (s : State) (v : Vector (Option Binding) 32) (i : TallyId) (k : Fin 2) : (s.setBindings v).binding i k = v[placeOf i k] := rfl

@[simp] theorem State.setSlots_cin (s : State) (v : Vector SlotState 24) (i : LineId) : (s.setSlots v).cin i = s.cin i := rfl
@[simp] theorem State.setSlots_group (s : State) (v : Vector SlotState 24) (i : Fin 4) : (s.setSlots v).group i = s.group i := rfl
@[simp] theorem State.setSlots_zone (s : State) (v : Vector SlotState 24) (i : Fin 16) : (s.setSlots v).zone i = s.zone i := rfl
@[simp] theorem State.setSlots_tally (s : State) (v : Vector SlotState 24) (i : TallyId) : (s.setSlots v).tally i = s.tally i := rfl
@[simp] theorem State.setSlots_glyph (s : State) (v : Vector SlotState 24) (i : Fin 4) : (s.setSlots v).glyph i = s.glyph i := rfl
@[simp] theorem State.setSlots_channel (s : State) (v : Vector SlotState 24) (i : Fin 4) : (s.setSlots v).channel i = s.channel i := rfl
@[simp] theorem State.setSlots_port (s : State) (v : Vector SlotState 24) (i : PanelId) : (s.setSlots v).port i = s.port i := rfl
@[simp] theorem State.setSlots_list (s : State) (v : Vector SlotState 24) (i : PanelId) : (s.setSlots v).list i = s.list i := rfl
@[simp] theorem State.setSlots_region (s : State) (v : Vector SlotState 24) (i : PanelId) : (s.setSlots v).region i = s.region i := rfl
@[simp] theorem State.setSlots_slot (s : State) (v : Vector SlotState 24) (i : Fin 24) : (s.setSlots v).slot i = v[i] := rfl
@[simp] theorem State.setSlots_ring (s : State) (v : Vector SlotState 24) (r : RingId) : (s.setSlots v).ring r = s.ring r := by cases r <;> rfl
@[simp] theorem State.setSlots_binding (s : State) (v : Vector SlotState 24) (i : TallyId) (k : Fin 2) : (s.setSlots v).binding i k = s.binding i k := rfl

@[simp] theorem State.setStaging_cin (s : State) (v : Memory) (i : LineId) : (s.setStaging v).cin i = s.cin i := rfl
@[simp] theorem State.setStaging_group (s : State) (v : Memory) (i : Fin 4) : (s.setStaging v).group i = s.group i := rfl
@[simp] theorem State.setStaging_zone (s : State) (v : Memory) (i : Fin 16) : (s.setStaging v).zone i = s.zone i := rfl
@[simp] theorem State.setStaging_tally (s : State) (v : Memory) (i : TallyId) : (s.setStaging v).tally i = s.tally i := rfl
@[simp] theorem State.setStaging_glyph (s : State) (v : Memory) (i : Fin 4) : (s.setStaging v).glyph i = s.glyph i := rfl
@[simp] theorem State.setStaging_channel (s : State) (v : Memory) (i : Fin 4) : (s.setStaging v).channel i = s.channel i := rfl
@[simp] theorem State.setStaging_port (s : State) (v : Memory) (i : PanelId) : (s.setStaging v).port i = s.port i := rfl
@[simp] theorem State.setStaging_list (s : State) (v : Memory) (i : PanelId) : (s.setStaging v).list i = s.list i := rfl
@[simp] theorem State.setStaging_region (s : State) (v : Memory) (i : PanelId) : (s.setStaging v).region i = s.region i := rfl
@[simp] theorem State.setStaging_slot (s : State) (v : Memory) (i : Fin 24) : (s.setStaging v).slot i = s.slot i := rfl
@[simp] theorem State.setStaging_ring (s : State) (v : Memory) (r : RingId) : (s.setStaging v).ring r = s.ring r := by cases r <;> rfl
@[simp] theorem State.setStaging_binding (s : State) (v : Memory) (i : TallyId) (k : Fin 2) : (s.setStaging v).binding i k = s.binding i k := rfl

@[simp] theorem State.setChannels_cin (s : State) (v : Vector Channel 4) (i : LineId) : (s.setChannels v).cin i = s.cin i := rfl
@[simp] theorem State.setChannels_group (s : State) (v : Vector Channel 4) (i : Fin 4) : (s.setChannels v).group i = s.group i := rfl
@[simp] theorem State.setChannels_zone (s : State) (v : Vector Channel 4) (i : Fin 16) : (s.setChannels v).zone i = s.zone i := rfl
@[simp] theorem State.setChannels_tally (s : State) (v : Vector Channel 4) (i : TallyId) : (s.setChannels v).tally i = s.tally i := rfl
@[simp] theorem State.setChannels_glyph (s : State) (v : Vector Channel 4) (i : Fin 4) : (s.setChannels v).glyph i = s.glyph i := rfl
@[simp] theorem State.setChannels_channel (s : State) (v : Vector Channel 4) (i : Fin 4) : (s.setChannels v).channel i = v[i] := rfl
@[simp] theorem State.setChannels_port (s : State) (v : Vector Channel 4) (i : PanelId) : (s.setChannels v).port i = s.port i := rfl
@[simp] theorem State.setChannels_list (s : State) (v : Vector Channel 4) (i : PanelId) : (s.setChannels v).list i = s.list i := rfl
@[simp] theorem State.setChannels_region (s : State) (v : Vector Channel 4) (i : PanelId) : (s.setChannels v).region i = s.region i := rfl
@[simp] theorem State.setChannels_slot (s : State) (v : Vector Channel 4) (i : Fin 24) : (s.setChannels v).slot i = s.slot i := rfl
@[simp] theorem State.setChannels_ring (s : State) (v : Vector Channel 4) (r : RingId) : (s.setChannels v).ring r = s.ring r := by cases r <;> rfl
@[simp] theorem State.setChannels_binding (s : State) (v : Vector Channel 4) (i : TallyId) (k : Fin 2) : (s.setChannels v).binding i k = s.binding i k := rfl

@[simp] theorem State.setWaitQueue_cin (s : State) (v : List Operation) (i : LineId) : (s.setWaitQueue v).cin i = s.cin i := rfl
@[simp] theorem State.setWaitQueue_group (s : State) (v : List Operation) (i : Fin 4) : (s.setWaitQueue v).group i = s.group i := rfl
@[simp] theorem State.setWaitQueue_zone (s : State) (v : List Operation) (i : Fin 16) : (s.setWaitQueue v).zone i = s.zone i := rfl
@[simp] theorem State.setWaitQueue_tally (s : State) (v : List Operation) (i : TallyId) : (s.setWaitQueue v).tally i = s.tally i := rfl
@[simp] theorem State.setWaitQueue_glyph (s : State) (v : List Operation) (i : Fin 4) : (s.setWaitQueue v).glyph i = s.glyph i := rfl
@[simp] theorem State.setWaitQueue_channel (s : State) (v : List Operation) (i : Fin 4) : (s.setWaitQueue v).channel i = s.channel i := rfl
@[simp] theorem State.setWaitQueue_port (s : State) (v : List Operation) (i : PanelId) : (s.setWaitQueue v).port i = s.port i := rfl
@[simp] theorem State.setWaitQueue_list (s : State) (v : List Operation) (i : PanelId) : (s.setWaitQueue v).list i = s.list i := rfl
@[simp] theorem State.setWaitQueue_region (s : State) (v : List Operation) (i : PanelId) : (s.setWaitQueue v).region i = s.region i := rfl
@[simp] theorem State.setWaitQueue_slot (s : State) (v : List Operation) (i : Fin 24) : (s.setWaitQueue v).slot i = s.slot i := rfl
@[simp] theorem State.setWaitQueue_ring (s : State) (v : List Operation) (r : RingId) : (s.setWaitQueue v).ring r = s.ring r := by cases r <;> rfl
@[simp] theorem State.setWaitQueue_binding (s : State) (v : List Operation) (i : TallyId) (k : Fin 2) : (s.setWaitQueue v).binding i k = s.binding i k := rfl

@[simp] theorem State.setRrNext_cin (s : State) (v : Fin 4) (i : LineId) : (s.setRrNext v).cin i = s.cin i := rfl
@[simp] theorem State.setRrNext_group (s : State) (v : Fin 4) (i : Fin 4) : (s.setRrNext v).group i = s.group i := rfl
@[simp] theorem State.setRrNext_zone (s : State) (v : Fin 4) (i : Fin 16) : (s.setRrNext v).zone i = s.zone i := rfl
@[simp] theorem State.setRrNext_tally (s : State) (v : Fin 4) (i : TallyId) : (s.setRrNext v).tally i = s.tally i := rfl
@[simp] theorem State.setRrNext_glyph (s : State) (v : Fin 4) (i : Fin 4) : (s.setRrNext v).glyph i = s.glyph i := rfl
@[simp] theorem State.setRrNext_channel (s : State) (v : Fin 4) (i : Fin 4) : (s.setRrNext v).channel i = s.channel i := rfl
@[simp] theorem State.setRrNext_port (s : State) (v : Fin 4) (i : PanelId) : (s.setRrNext v).port i = s.port i := rfl
@[simp] theorem State.setRrNext_list (s : State) (v : Fin 4) (i : PanelId) : (s.setRrNext v).list i = s.list i := rfl
@[simp] theorem State.setRrNext_region (s : State) (v : Fin 4) (i : PanelId) : (s.setRrNext v).region i = s.region i := rfl
@[simp] theorem State.setRrNext_slot (s : State) (v : Fin 4) (i : Fin 24) : (s.setRrNext v).slot i = s.slot i := rfl
@[simp] theorem State.setRrNext_ring (s : State) (v : Fin 4) (r : RingId) : (s.setRrNext v).ring r = s.ring r := by cases r <;> rfl
@[simp] theorem State.setRrNext_binding (s : State) (v : Fin 4) (i : TallyId) (k : Fin 2) : (s.setRrNext v).binding i k = s.binding i k := rfl

@[simp] theorem State.setFlight_cin (s : State) (v : Option Flight) (i : LineId) : (s.setFlight v).cin i = s.cin i := rfl
@[simp] theorem State.setFlight_group (s : State) (v : Option Flight) (i : Fin 4) : (s.setFlight v).group i = s.group i := rfl
@[simp] theorem State.setFlight_zone (s : State) (v : Option Flight) (i : Fin 16) : (s.setFlight v).zone i = s.zone i := rfl
@[simp] theorem State.setFlight_tally (s : State) (v : Option Flight) (i : TallyId) : (s.setFlight v).tally i = s.tally i := rfl
@[simp] theorem State.setFlight_glyph (s : State) (v : Option Flight) (i : Fin 4) : (s.setFlight v).glyph i = s.glyph i := rfl
@[simp] theorem State.setFlight_channel (s : State) (v : Option Flight) (i : Fin 4) : (s.setFlight v).channel i = s.channel i := rfl
@[simp] theorem State.setFlight_port (s : State) (v : Option Flight) (i : PanelId) : (s.setFlight v).port i = s.port i := rfl
@[simp] theorem State.setFlight_list (s : State) (v : Option Flight) (i : PanelId) : (s.setFlight v).list i = s.list i := rfl
@[simp] theorem State.setFlight_region (s : State) (v : Option Flight) (i : PanelId) : (s.setFlight v).region i = s.region i := rfl
@[simp] theorem State.setFlight_slot (s : State) (v : Option Flight) (i : Fin 24) : (s.setFlight v).slot i = s.slot i := rfl
@[simp] theorem State.setFlight_ring (s : State) (v : Option Flight) (r : RingId) : (s.setFlight v).ring r = s.ring r := by cases r <;> rfl
@[simp] theorem State.setFlight_binding (s : State) (v : Option Flight) (i : TallyId) (k : Fin 2) : (s.setFlight v).binding i k = s.binding i k := rfl

@[simp] theorem State.setPorts_cin (s : State) (v : Vector Port 4) (i : LineId) : (s.setPorts v).cin i = s.cin i := rfl
@[simp] theorem State.setPorts_group (s : State) (v : Vector Port 4) (i : Fin 4) : (s.setPorts v).group i = s.group i := rfl
@[simp] theorem State.setPorts_zone (s : State) (v : Vector Port 4) (i : Fin 16) : (s.setPorts v).zone i = s.zone i := rfl
@[simp] theorem State.setPorts_tally (s : State) (v : Vector Port 4) (i : TallyId) : (s.setPorts v).tally i = s.tally i := rfl
@[simp] theorem State.setPorts_glyph (s : State) (v : Vector Port 4) (i : Fin 4) : (s.setPorts v).glyph i = s.glyph i := rfl
@[simp] theorem State.setPorts_channel (s : State) (v : Vector Port 4) (i : Fin 4) : (s.setPorts v).channel i = s.channel i := rfl
@[simp] theorem State.setPorts_port (s : State) (v : Vector Port 4) (i : PanelId) : (s.setPorts v).port i = v[i] := rfl
@[simp] theorem State.setPorts_list (s : State) (v : Vector Port 4) (i : PanelId) : (s.setPorts v).list i = s.list i := rfl
@[simp] theorem State.setPorts_region (s : State) (v : Vector Port 4) (i : PanelId) : (s.setPorts v).region i = s.region i := rfl
@[simp] theorem State.setPorts_slot (s : State) (v : Vector Port 4) (i : Fin 24) : (s.setPorts v).slot i = s.slot i := rfl
@[simp] theorem State.setPorts_ring (s : State) (v : Vector Port 4) (r : RingId) : (s.setPorts v).ring r = s.ring r := by cases r <;> rfl
@[simp] theorem State.setPorts_binding (s : State) (v : Vector Port 4) (i : TallyId) (k : Fin 2) : (s.setPorts v).binding i k = s.binding i k := rfl

@[simp] theorem State.setLists_cin (s : State) (v : Vector (List Entry) 4) (i : LineId) : (s.setLists v).cin i = s.cin i := rfl
@[simp] theorem State.setLists_group (s : State) (v : Vector (List Entry) 4) (i : Fin 4) : (s.setLists v).group i = s.group i := rfl
@[simp] theorem State.setLists_zone (s : State) (v : Vector (List Entry) 4) (i : Fin 16) : (s.setLists v).zone i = s.zone i := rfl
@[simp] theorem State.setLists_tally (s : State) (v : Vector (List Entry) 4) (i : TallyId) : (s.setLists v).tally i = s.tally i := rfl
@[simp] theorem State.setLists_glyph (s : State) (v : Vector (List Entry) 4) (i : Fin 4) : (s.setLists v).glyph i = s.glyph i := rfl
@[simp] theorem State.setLists_channel (s : State) (v : Vector (List Entry) 4) (i : Fin 4) : (s.setLists v).channel i = s.channel i := rfl
@[simp] theorem State.setLists_port (s : State) (v : Vector (List Entry) 4) (i : PanelId) : (s.setLists v).port i = s.port i := rfl
@[simp] theorem State.setLists_list (s : State) (v : Vector (List Entry) 4) (i : PanelId) : (s.setLists v).list i = v[i] := rfl
@[simp] theorem State.setLists_region (s : State) (v : Vector (List Entry) 4) (i : PanelId) : (s.setLists v).region i = s.region i := rfl
@[simp] theorem State.setLists_slot (s : State) (v : Vector (List Entry) 4) (i : Fin 24) : (s.setLists v).slot i = s.slot i := rfl
@[simp] theorem State.setLists_ring (s : State) (v : Vector (List Entry) 4) (r : RingId) : (s.setLists v).ring r = s.ring r := by cases r <;> rfl
@[simp] theorem State.setLists_binding (s : State) (v : Vector (List Entry) 4) (i : TallyId) (k : Fin 2) : (s.setLists v).binding i k = s.binding i k := rfl

@[simp] theorem State.setRegions_cin (s : State) (v : Vector Memory 4) (i : LineId) : (s.setRegions v).cin i = s.cin i := rfl
@[simp] theorem State.setRegions_group (s : State) (v : Vector Memory 4) (i : Fin 4) : (s.setRegions v).group i = s.group i := rfl
@[simp] theorem State.setRegions_zone (s : State) (v : Vector Memory 4) (i : Fin 16) : (s.setRegions v).zone i = s.zone i := rfl
@[simp] theorem State.setRegions_tally (s : State) (v : Vector Memory 4) (i : TallyId) : (s.setRegions v).tally i = s.tally i := rfl
@[simp] theorem State.setRegions_glyph (s : State) (v : Vector Memory 4) (i : Fin 4) : (s.setRegions v).glyph i = s.glyph i := rfl
@[simp] theorem State.setRegions_channel (s : State) (v : Vector Memory 4) (i : Fin 4) : (s.setRegions v).channel i = s.channel i := rfl
@[simp] theorem State.setRegions_port (s : State) (v : Vector Memory 4) (i : PanelId) : (s.setRegions v).port i = s.port i := rfl
@[simp] theorem State.setRegions_list (s : State) (v : Vector Memory 4) (i : PanelId) : (s.setRegions v).list i = s.list i := rfl
@[simp] theorem State.setRegions_region (s : State) (v : Vector Memory 4) (i : PanelId) : (s.setRegions v).region i = v[i] := rfl
@[simp] theorem State.setRegions_slot (s : State) (v : Vector Memory 4) (i : Fin 24) : (s.setRegions v).slot i = s.slot i := rfl
@[simp] theorem State.setRegions_ring (s : State) (v : Vector Memory 4) (r : RingId) : (s.setRegions v).ring r = s.ring r := by cases r <;> rfl
@[simp] theorem State.setRegions_binding (s : State) (v : Vector Memory 4) (i : TallyId) (k : Fin 2) : (s.setRegions v).binding i k = s.binding i k := rfl

@[simp] theorem State.setRingU_cin (s : State) (v : Ring) (i : LineId) : (s.setRingU v).cin i = s.cin i := rfl
@[simp] theorem State.setRingU_group (s : State) (v : Ring) (i : Fin 4) : (s.setRingU v).group i = s.group i := rfl
@[simp] theorem State.setRingU_zone (s : State) (v : Ring) (i : Fin 16) : (s.setRingU v).zone i = s.zone i := rfl
@[simp] theorem State.setRingU_tally (s : State) (v : Ring) (i : TallyId) : (s.setRingU v).tally i = s.tally i := rfl
@[simp] theorem State.setRingU_glyph (s : State) (v : Ring) (i : Fin 4) : (s.setRingU v).glyph i = s.glyph i := rfl
@[simp] theorem State.setRingU_channel (s : State) (v : Ring) (i : Fin 4) : (s.setRingU v).channel i = s.channel i := rfl
@[simp] theorem State.setRingU_port (s : State) (v : Ring) (i : PanelId) : (s.setRingU v).port i = s.port i := rfl
@[simp] theorem State.setRingU_list (s : State) (v : Ring) (i : PanelId) : (s.setRingU v).list i = s.list i := rfl
@[simp] theorem State.setRingU_region (s : State) (v : Ring) (i : PanelId) : (s.setRingU v).region i = s.region i := rfl
@[simp] theorem State.setRingU_slot (s : State) (v : Ring) (i : Fin 24) : (s.setRingU v).slot i = s.slot i := rfl
@[simp] theorem State.setRingU_binding (s : State) (v : Ring) (i : TallyId) (k : Fin 2) : (s.setRingU v).binding i k = s.binding i k := rfl

@[simp] theorem State.setRingB_cin (s : State) (v : Ring) (i : LineId) : (s.setRingB v).cin i = s.cin i := rfl
@[simp] theorem State.setRingB_group (s : State) (v : Ring) (i : Fin 4) : (s.setRingB v).group i = s.group i := rfl
@[simp] theorem State.setRingB_zone (s : State) (v : Ring) (i : Fin 16) : (s.setRingB v).zone i = s.zone i := rfl
@[simp] theorem State.setRingB_tally (s : State) (v : Ring) (i : TallyId) : (s.setRingB v).tally i = s.tally i := rfl
@[simp] theorem State.setRingB_glyph (s : State) (v : Ring) (i : Fin 4) : (s.setRingB v).glyph i = s.glyph i := rfl
@[simp] theorem State.setRingB_channel (s : State) (v : Ring) (i : Fin 4) : (s.setRingB v).channel i = s.channel i := rfl
@[simp] theorem State.setRingB_port (s : State) (v : Ring) (i : PanelId) : (s.setRingB v).port i = s.port i := rfl
@[simp] theorem State.setRingB_list (s : State) (v : Ring) (i : PanelId) : (s.setRingB v).list i = s.list i := rfl
@[simp] theorem State.setRingB_region (s : State) (v : Ring) (i : PanelId) : (s.setRingB v).region i = s.region i := rfl
@[simp] theorem State.setRingB_slot (s : State) (v : Ring) (i : Fin 24) : (s.setRingB v).slot i = s.slot i := rfl
@[simp] theorem State.setRingB_binding (s : State) (v : Ring) (i : TallyId) (k : Fin 2) : (s.setRingB v).binding i k = s.binding i k := rfl

@[simp] theorem State.setPassOver_cin (s : State) (v : Nat) (i : LineId) : (s.setPassOver v).cin i = s.cin i := rfl
@[simp] theorem State.setPassOver_group (s : State) (v : Nat) (i : Fin 4) : (s.setPassOver v).group i = s.group i := rfl
@[simp] theorem State.setPassOver_zone (s : State) (v : Nat) (i : Fin 16) : (s.setPassOver v).zone i = s.zone i := rfl
@[simp] theorem State.setPassOver_tally (s : State) (v : Nat) (i : TallyId) : (s.setPassOver v).tally i = s.tally i := rfl
@[simp] theorem State.setPassOver_glyph (s : State) (v : Nat) (i : Fin 4) : (s.setPassOver v).glyph i = s.glyph i := rfl
@[simp] theorem State.setPassOver_channel (s : State) (v : Nat) (i : Fin 4) : (s.setPassOver v).channel i = s.channel i := rfl
@[simp] theorem State.setPassOver_port (s : State) (v : Nat) (i : PanelId) : (s.setPassOver v).port i = s.port i := rfl
@[simp] theorem State.setPassOver_list (s : State) (v : Nat) (i : PanelId) : (s.setPassOver v).list i = s.list i := rfl
@[simp] theorem State.setPassOver_region (s : State) (v : Nat) (i : PanelId) : (s.setPassOver v).region i = s.region i := rfl
@[simp] theorem State.setPassOver_slot (s : State) (v : Nat) (i : Fin 24) : (s.setPassOver v).slot i = s.slot i := rfl
@[simp] theorem State.setPassOver_ring (s : State) (v : Nat) (r : RingId) : (s.setPassOver v).ring r = s.ring r := by cases r <;> rfl
@[simp] theorem State.setPassOver_binding (s : State) (v : Nat) (i : TallyId) (k : Fin 2) : (s.setPassOver v).binding i k = s.binding i k := rfl

@[simp] theorem State.setCpo_cin (s : State) (v : Poster) (i : LineId) : (s.setCpo v).cin i = s.cin i := rfl
@[simp] theorem State.setCpo_group (s : State) (v : Poster) (i : Fin 4) : (s.setCpo v).group i = s.group i := rfl
@[simp] theorem State.setCpo_zone (s : State) (v : Poster) (i : Fin 16) : (s.setCpo v).zone i = s.zone i := rfl
@[simp] theorem State.setCpo_tally (s : State) (v : Poster) (i : TallyId) : (s.setCpo v).tally i = s.tally i := rfl
@[simp] theorem State.setCpo_glyph (s : State) (v : Poster) (i : Fin 4) : (s.setCpo v).glyph i = s.glyph i := rfl
@[simp] theorem State.setCpo_channel (s : State) (v : Poster) (i : Fin 4) : (s.setCpo v).channel i = s.channel i := rfl
@[simp] theorem State.setCpo_port (s : State) (v : Poster) (i : PanelId) : (s.setCpo v).port i = s.port i := rfl
@[simp] theorem State.setCpo_list (s : State) (v : Poster) (i : PanelId) : (s.setCpo v).list i = s.list i := rfl
@[simp] theorem State.setCpo_region (s : State) (v : Poster) (i : PanelId) : (s.setCpo v).region i = s.region i := rfl
@[simp] theorem State.setCpo_slot (s : State) (v : Poster) (i : Fin 24) : (s.setCpo v).slot i = s.slot i := rfl
@[simp] theorem State.setCpo_ring (s : State) (v : Poster) (r : RingId) : (s.setCpo v).ring r = s.ring r := by cases r <;> rfl
@[simp] theorem State.setCpo_binding (s : State) (v : Poster) (i : TallyId) (k : Fin 2) : (s.setCpo v).binding i k = s.binding i k := rfl

@[simp] theorem State.setRingU_ring_u (s : State) (v : Ring) : (s.setRingU v).ring .u = v := rfl
@[simp] theorem State.setRingU_ring_b (s : State) (v : Ring) : (s.setRingU v).ring .b = s.ring .b := rfl
@[simp] theorem State.setRingB_ring_b (s : State) (v : Ring) : (s.setRingB v).ring .b = v := rfl
@[simp] theorem State.setRingB_ring_u (s : State) (v : Ring) : (s.setRingB v).ring .u = s.ring .u := rfl

/-! ## Indexed setters -/

@[simp] theorem State.setCin_pending (s : State) (i : LineId) (v : CountInput) : (s.setCin i v).pending = s.pending := rfl
@[simp] theorem State.setCin_dev (s : State) (i : LineId) (v : CountInput) : (s.setCin i v).dev = s.dev := rfl
@[simp] theorem State.setCin_tb (s : State) (i : LineId) (v : CountInput) : (s.setCin i v).tb = s.tb := rfl
@[simp] theorem State.setCin_cins (s : State) (i : LineId) (v : CountInput) : (s.setCin i v).cins = s.cins.set i v := rfl
@[simp] theorem State.setCin_groups (s : State) (i : LineId) (v : CountInput) : (s.setCin i v).groups = s.groups := rfl
@[simp] theorem State.setCin_zones (s : State) (i : LineId) (v : CountInput) : (s.setCin i v).zones = s.zones := rfl
@[simp] theorem State.setCin_tallies (s : State) (i : LineId) (v : CountInput) : (s.setCin i v).tallies = s.tallies := rfl
@[simp] theorem State.setCin_glyphs (s : State) (i : LineId) (v : CountInput) : (s.setCin i v).glyphs = s.glyphs := rfl
@[simp] theorem State.setCin_bindings (s : State) (i : LineId) (v : CountInput) : (s.setCin i v).bindings = s.bindings := rfl
@[simp] theorem State.setCin_slots (s : State) (i : LineId) (v : CountInput) : (s.setCin i v).slots = s.slots := rfl
@[simp] theorem State.setCin_staging (s : State) (i : LineId) (v : CountInput) : (s.setCin i v).staging = s.staging := rfl
@[simp] theorem State.setCin_channels (s : State) (i : LineId) (v : CountInput) : (s.setCin i v).channels = s.channels := rfl
@[simp] theorem State.setCin_waitQueue (s : State) (i : LineId) (v : CountInput) : (s.setCin i v).waitQueue = s.waitQueue := rfl
@[simp] theorem State.setCin_rrNext (s : State) (i : LineId) (v : CountInput) : (s.setCin i v).rrNext = s.rrNext := rfl
@[simp] theorem State.setCin_flight (s : State) (i : LineId) (v : CountInput) : (s.setCin i v).flight = s.flight := rfl
@[simp] theorem State.setCin_ports (s : State) (i : LineId) (v : CountInput) : (s.setCin i v).ports = s.ports := rfl
@[simp] theorem State.setCin_lists (s : State) (i : LineId) (v : CountInput) : (s.setCin i v).lists = s.lists := rfl
@[simp] theorem State.setCin_regions (s : State) (i : LineId) (v : CountInput) : (s.setCin i v).regions = s.regions := rfl
@[simp] theorem State.setCin_ringU (s : State) (i : LineId) (v : CountInput) : (s.setCin i v).ringU = s.ringU := rfl
@[simp] theorem State.setCin_ringB (s : State) (i : LineId) (v : CountInput) : (s.setCin i v).ringB = s.ringB := rfl
@[simp] theorem State.setCin_passOver (s : State) (i : LineId) (v : CountInput) : (s.setCin i v).passOver = s.passOver := rfl
@[simp] theorem State.setCin_cpo (s : State) (i : LineId) (v : CountInput) : (s.setCin i v).cpo = s.cpo := rfl
@[simp] theorem State.setCin_cin (s : State) (i : LineId) (v : CountInput) : (s.setCin i v).cin i = v := by
  simp [State.setCin, State.cin]
theorem State.setCin_cin_of_ne (s : State) (v : CountInput) {i j : LineId} (h : i ≠ j) :
    (s.setCin i v).cin j = s.cin j := by
  simp [State.setCin, State.cin, Fin.val_ne_of_ne h]
@[simp] theorem State.setCin_group (s : State) (i : LineId) (v : CountInput) (j : Fin 4) : (s.setCin i v).group j = s.group j := rfl
@[simp] theorem State.setCin_zone (s : State) (i : LineId) (v : CountInput) (j : Fin 16) : (s.setCin i v).zone j = s.zone j := rfl
@[simp] theorem State.setCin_tally (s : State) (i : LineId) (v : CountInput) (j : TallyId) : (s.setCin i v).tally j = s.tally j := rfl
@[simp] theorem State.setCin_glyph (s : State) (i : LineId) (v : CountInput) (j : Fin 4) : (s.setCin i v).glyph j = s.glyph j := rfl
@[simp] theorem State.setCin_channel (s : State) (i : LineId) (v : CountInput) (j : Fin 4) : (s.setCin i v).channel j = s.channel j := rfl
@[simp] theorem State.setCin_port (s : State) (i : LineId) (v : CountInput) (j : PanelId) : (s.setCin i v).port j = s.port j := rfl
@[simp] theorem State.setCin_list (s : State) (i : LineId) (v : CountInput) (j : PanelId) : (s.setCin i v).list j = s.list j := rfl
@[simp] theorem State.setCin_region (s : State) (i : LineId) (v : CountInput) (j : PanelId) : (s.setCin i v).region j = s.region j := rfl
@[simp] theorem State.setCin_slot (s : State) (i : LineId) (v : CountInput) (j : Fin 24) : (s.setCin i v).slot j = s.slot j := rfl
@[simp] theorem State.setCin_ring (s : State) (i : LineId) (v : CountInput) (r : RingId) : (s.setCin i v).ring r = s.ring r := by cases r <;> rfl
@[simp] theorem State.setCin_binding (s : State) (i : LineId) (v : CountInput) (j : TallyId) (k : Fin 2) : (s.setCin i v).binding j k = s.binding j k := rfl

@[simp] theorem State.setGroup_pending (s : State) (i : Fin 4) (v : BlinkGroup) : (s.setGroup i v).pending = s.pending := rfl
@[simp] theorem State.setGroup_dev (s : State) (i : Fin 4) (v : BlinkGroup) : (s.setGroup i v).dev = s.dev := rfl
@[simp] theorem State.setGroup_tb (s : State) (i : Fin 4) (v : BlinkGroup) : (s.setGroup i v).tb = s.tb := rfl
@[simp] theorem State.setGroup_cins (s : State) (i : Fin 4) (v : BlinkGroup) : (s.setGroup i v).cins = s.cins := rfl
@[simp] theorem State.setGroup_groups (s : State) (i : Fin 4) (v : BlinkGroup) : (s.setGroup i v).groups = s.groups.set i v := rfl
@[simp] theorem State.setGroup_zones (s : State) (i : Fin 4) (v : BlinkGroup) : (s.setGroup i v).zones = s.zones := rfl
@[simp] theorem State.setGroup_tallies (s : State) (i : Fin 4) (v : BlinkGroup) : (s.setGroup i v).tallies = s.tallies := rfl
@[simp] theorem State.setGroup_glyphs (s : State) (i : Fin 4) (v : BlinkGroup) : (s.setGroup i v).glyphs = s.glyphs := rfl
@[simp] theorem State.setGroup_bindings (s : State) (i : Fin 4) (v : BlinkGroup) : (s.setGroup i v).bindings = s.bindings := rfl
@[simp] theorem State.setGroup_slots (s : State) (i : Fin 4) (v : BlinkGroup) : (s.setGroup i v).slots = s.slots := rfl
@[simp] theorem State.setGroup_staging (s : State) (i : Fin 4) (v : BlinkGroup) : (s.setGroup i v).staging = s.staging := rfl
@[simp] theorem State.setGroup_channels (s : State) (i : Fin 4) (v : BlinkGroup) : (s.setGroup i v).channels = s.channels := rfl
@[simp] theorem State.setGroup_waitQueue (s : State) (i : Fin 4) (v : BlinkGroup) : (s.setGroup i v).waitQueue = s.waitQueue := rfl
@[simp] theorem State.setGroup_rrNext (s : State) (i : Fin 4) (v : BlinkGroup) : (s.setGroup i v).rrNext = s.rrNext := rfl
@[simp] theorem State.setGroup_flight (s : State) (i : Fin 4) (v : BlinkGroup) : (s.setGroup i v).flight = s.flight := rfl
@[simp] theorem State.setGroup_ports (s : State) (i : Fin 4) (v : BlinkGroup) : (s.setGroup i v).ports = s.ports := rfl
@[simp] theorem State.setGroup_lists (s : State) (i : Fin 4) (v : BlinkGroup) : (s.setGroup i v).lists = s.lists := rfl
@[simp] theorem State.setGroup_regions (s : State) (i : Fin 4) (v : BlinkGroup) : (s.setGroup i v).regions = s.regions := rfl
@[simp] theorem State.setGroup_ringU (s : State) (i : Fin 4) (v : BlinkGroup) : (s.setGroup i v).ringU = s.ringU := rfl
@[simp] theorem State.setGroup_ringB (s : State) (i : Fin 4) (v : BlinkGroup) : (s.setGroup i v).ringB = s.ringB := rfl
@[simp] theorem State.setGroup_passOver (s : State) (i : Fin 4) (v : BlinkGroup) : (s.setGroup i v).passOver = s.passOver := rfl
@[simp] theorem State.setGroup_cpo (s : State) (i : Fin 4) (v : BlinkGroup) : (s.setGroup i v).cpo = s.cpo := rfl
@[simp] theorem State.setGroup_cin (s : State) (i : Fin 4) (v : BlinkGroup) (j : LineId) : (s.setGroup i v).cin j = s.cin j := rfl
@[simp] theorem State.setGroup_group (s : State) (i : Fin 4) (v : BlinkGroup) : (s.setGroup i v).group i = v := by
  simp [State.setGroup, State.group]
theorem State.setGroup_group_of_ne (s : State) (v : BlinkGroup) {i j : Fin 4} (h : i ≠ j) :
    (s.setGroup i v).group j = s.group j := by
  simp [State.setGroup, State.group, Fin.val_ne_of_ne h]
@[simp] theorem State.setGroup_zone (s : State) (i : Fin 4) (v : BlinkGroup) (j : Fin 16) : (s.setGroup i v).zone j = s.zone j := rfl
@[simp] theorem State.setGroup_tally (s : State) (i : Fin 4) (v : BlinkGroup) (j : TallyId) : (s.setGroup i v).tally j = s.tally j := rfl
@[simp] theorem State.setGroup_glyph (s : State) (i : Fin 4) (v : BlinkGroup) (j : Fin 4) : (s.setGroup i v).glyph j = s.glyph j := rfl
@[simp] theorem State.setGroup_channel (s : State) (i : Fin 4) (v : BlinkGroup) (j : Fin 4) : (s.setGroup i v).channel j = s.channel j := rfl
@[simp] theorem State.setGroup_port (s : State) (i : Fin 4) (v : BlinkGroup) (j : PanelId) : (s.setGroup i v).port j = s.port j := rfl
@[simp] theorem State.setGroup_list (s : State) (i : Fin 4) (v : BlinkGroup) (j : PanelId) : (s.setGroup i v).list j = s.list j := rfl
@[simp] theorem State.setGroup_region (s : State) (i : Fin 4) (v : BlinkGroup) (j : PanelId) : (s.setGroup i v).region j = s.region j := rfl
@[simp] theorem State.setGroup_slot (s : State) (i : Fin 4) (v : BlinkGroup) (j : Fin 24) : (s.setGroup i v).slot j = s.slot j := rfl
@[simp] theorem State.setGroup_ring (s : State) (i : Fin 4) (v : BlinkGroup) (r : RingId) : (s.setGroup i v).ring r = s.ring r := by cases r <;> rfl
@[simp] theorem State.setGroup_binding (s : State) (i : Fin 4) (v : BlinkGroup) (j : TallyId) (k : Fin 2) : (s.setGroup i v).binding j k = s.binding j k := rfl

@[simp] theorem State.setZone_pending (s : State) (i : Fin 16) (v : Option Zone) : (s.setZone i v).pending = s.pending := rfl
@[simp] theorem State.setZone_dev (s : State) (i : Fin 16) (v : Option Zone) : (s.setZone i v).dev = s.dev := rfl
@[simp] theorem State.setZone_tb (s : State) (i : Fin 16) (v : Option Zone) : (s.setZone i v).tb = s.tb := rfl
@[simp] theorem State.setZone_cins (s : State) (i : Fin 16) (v : Option Zone) : (s.setZone i v).cins = s.cins := rfl
@[simp] theorem State.setZone_groups (s : State) (i : Fin 16) (v : Option Zone) : (s.setZone i v).groups = s.groups := rfl
@[simp] theorem State.setZone_zones (s : State) (i : Fin 16) (v : Option Zone) : (s.setZone i v).zones = s.zones.set i v := rfl
@[simp] theorem State.setZone_tallies (s : State) (i : Fin 16) (v : Option Zone) : (s.setZone i v).tallies = s.tallies := rfl
@[simp] theorem State.setZone_glyphs (s : State) (i : Fin 16) (v : Option Zone) : (s.setZone i v).glyphs = s.glyphs := rfl
@[simp] theorem State.setZone_bindings (s : State) (i : Fin 16) (v : Option Zone) : (s.setZone i v).bindings = s.bindings := rfl
@[simp] theorem State.setZone_slots (s : State) (i : Fin 16) (v : Option Zone) : (s.setZone i v).slots = s.slots := rfl
@[simp] theorem State.setZone_staging (s : State) (i : Fin 16) (v : Option Zone) : (s.setZone i v).staging = s.staging := rfl
@[simp] theorem State.setZone_channels (s : State) (i : Fin 16) (v : Option Zone) : (s.setZone i v).channels = s.channels := rfl
@[simp] theorem State.setZone_waitQueue (s : State) (i : Fin 16) (v : Option Zone) : (s.setZone i v).waitQueue = s.waitQueue := rfl
@[simp] theorem State.setZone_rrNext (s : State) (i : Fin 16) (v : Option Zone) : (s.setZone i v).rrNext = s.rrNext := rfl
@[simp] theorem State.setZone_flight (s : State) (i : Fin 16) (v : Option Zone) : (s.setZone i v).flight = s.flight := rfl
@[simp] theorem State.setZone_ports (s : State) (i : Fin 16) (v : Option Zone) : (s.setZone i v).ports = s.ports := rfl
@[simp] theorem State.setZone_lists (s : State) (i : Fin 16) (v : Option Zone) : (s.setZone i v).lists = s.lists := rfl
@[simp] theorem State.setZone_regions (s : State) (i : Fin 16) (v : Option Zone) : (s.setZone i v).regions = s.regions := rfl
@[simp] theorem State.setZone_ringU (s : State) (i : Fin 16) (v : Option Zone) : (s.setZone i v).ringU = s.ringU := rfl
@[simp] theorem State.setZone_ringB (s : State) (i : Fin 16) (v : Option Zone) : (s.setZone i v).ringB = s.ringB := rfl
@[simp] theorem State.setZone_passOver (s : State) (i : Fin 16) (v : Option Zone) : (s.setZone i v).passOver = s.passOver := rfl
@[simp] theorem State.setZone_cpo (s : State) (i : Fin 16) (v : Option Zone) : (s.setZone i v).cpo = s.cpo := rfl
@[simp] theorem State.setZone_cin (s : State) (i : Fin 16) (v : Option Zone) (j : LineId) : (s.setZone i v).cin j = s.cin j := rfl
@[simp] theorem State.setZone_group (s : State) (i : Fin 16) (v : Option Zone) (j : Fin 4) : (s.setZone i v).group j = s.group j := rfl
@[simp] theorem State.setZone_zone (s : State) (i : Fin 16) (v : Option Zone) : (s.setZone i v).zone i = v := by
  simp [State.setZone, State.zone]
theorem State.setZone_zone_of_ne (s : State) (v : Option Zone) {i j : Fin 16} (h : i ≠ j) :
    (s.setZone i v).zone j = s.zone j := by
  simp [State.setZone, State.zone, Fin.val_ne_of_ne h]
@[simp] theorem State.setZone_tally (s : State) (i : Fin 16) (v : Option Zone) (j : TallyId) : (s.setZone i v).tally j = s.tally j := rfl
@[simp] theorem State.setZone_glyph (s : State) (i : Fin 16) (v : Option Zone) (j : Fin 4) : (s.setZone i v).glyph j = s.glyph j := rfl
@[simp] theorem State.setZone_channel (s : State) (i : Fin 16) (v : Option Zone) (j : Fin 4) : (s.setZone i v).channel j = s.channel j := rfl
@[simp] theorem State.setZone_port (s : State) (i : Fin 16) (v : Option Zone) (j : PanelId) : (s.setZone i v).port j = s.port j := rfl
@[simp] theorem State.setZone_list (s : State) (i : Fin 16) (v : Option Zone) (j : PanelId) : (s.setZone i v).list j = s.list j := rfl
@[simp] theorem State.setZone_region (s : State) (i : Fin 16) (v : Option Zone) (j : PanelId) : (s.setZone i v).region j = s.region j := rfl
@[simp] theorem State.setZone_slot (s : State) (i : Fin 16) (v : Option Zone) (j : Fin 24) : (s.setZone i v).slot j = s.slot j := rfl
@[simp] theorem State.setZone_ring (s : State) (i : Fin 16) (v : Option Zone) (r : RingId) : (s.setZone i v).ring r = s.ring r := by cases r <;> rfl
@[simp] theorem State.setZone_binding (s : State) (i : Fin 16) (v : Option Zone) (j : TallyId) (k : Fin 2) : (s.setZone i v).binding j k = s.binding j k := rfl

@[simp] theorem State.setTally_pending (s : State) (i : TallyId) (v : Tally) : (s.setTally i v).pending = s.pending := rfl
@[simp] theorem State.setTally_dev (s : State) (i : TallyId) (v : Tally) : (s.setTally i v).dev = s.dev := rfl
@[simp] theorem State.setTally_tb (s : State) (i : TallyId) (v : Tally) : (s.setTally i v).tb = s.tb := rfl
@[simp] theorem State.setTally_cins (s : State) (i : TallyId) (v : Tally) : (s.setTally i v).cins = s.cins := rfl
@[simp] theorem State.setTally_groups (s : State) (i : TallyId) (v : Tally) : (s.setTally i v).groups = s.groups := rfl
@[simp] theorem State.setTally_zones (s : State) (i : TallyId) (v : Tally) : (s.setTally i v).zones = s.zones := rfl
@[simp] theorem State.setTally_tallies (s : State) (i : TallyId) (v : Tally) : (s.setTally i v).tallies = s.tallies.set i v := rfl
@[simp] theorem State.setTally_glyphs (s : State) (i : TallyId) (v : Tally) : (s.setTally i v).glyphs = s.glyphs := rfl
@[simp] theorem State.setTally_bindings (s : State) (i : TallyId) (v : Tally) : (s.setTally i v).bindings = s.bindings := rfl
@[simp] theorem State.setTally_slots (s : State) (i : TallyId) (v : Tally) : (s.setTally i v).slots = s.slots := rfl
@[simp] theorem State.setTally_staging (s : State) (i : TallyId) (v : Tally) : (s.setTally i v).staging = s.staging := rfl
@[simp] theorem State.setTally_channels (s : State) (i : TallyId) (v : Tally) : (s.setTally i v).channels = s.channels := rfl
@[simp] theorem State.setTally_waitQueue (s : State) (i : TallyId) (v : Tally) : (s.setTally i v).waitQueue = s.waitQueue := rfl
@[simp] theorem State.setTally_rrNext (s : State) (i : TallyId) (v : Tally) : (s.setTally i v).rrNext = s.rrNext := rfl
@[simp] theorem State.setTally_flight (s : State) (i : TallyId) (v : Tally) : (s.setTally i v).flight = s.flight := rfl
@[simp] theorem State.setTally_ports (s : State) (i : TallyId) (v : Tally) : (s.setTally i v).ports = s.ports := rfl
@[simp] theorem State.setTally_lists (s : State) (i : TallyId) (v : Tally) : (s.setTally i v).lists = s.lists := rfl
@[simp] theorem State.setTally_regions (s : State) (i : TallyId) (v : Tally) : (s.setTally i v).regions = s.regions := rfl
@[simp] theorem State.setTally_ringU (s : State) (i : TallyId) (v : Tally) : (s.setTally i v).ringU = s.ringU := rfl
@[simp] theorem State.setTally_ringB (s : State) (i : TallyId) (v : Tally) : (s.setTally i v).ringB = s.ringB := rfl
@[simp] theorem State.setTally_passOver (s : State) (i : TallyId) (v : Tally) : (s.setTally i v).passOver = s.passOver := rfl
@[simp] theorem State.setTally_cpo (s : State) (i : TallyId) (v : Tally) : (s.setTally i v).cpo = s.cpo := rfl
@[simp] theorem State.setTally_cin (s : State) (i : TallyId) (v : Tally) (j : LineId) : (s.setTally i v).cin j = s.cin j := rfl
@[simp] theorem State.setTally_group (s : State) (i : TallyId) (v : Tally) (j : Fin 4) : (s.setTally i v).group j = s.group j := rfl
@[simp] theorem State.setTally_zone (s : State) (i : TallyId) (v : Tally) (j : Fin 16) : (s.setTally i v).zone j = s.zone j := rfl
@[simp] theorem State.setTally_tally (s : State) (i : TallyId) (v : Tally) : (s.setTally i v).tally i = v := by
  simp [State.setTally, State.tally]
theorem State.setTally_tally_of_ne (s : State) (v : Tally) {i j : TallyId} (h : i ≠ j) :
    (s.setTally i v).tally j = s.tally j := by
  simp [State.setTally, State.tally, Fin.val_ne_of_ne h]
@[simp] theorem State.setTally_glyph (s : State) (i : TallyId) (v : Tally) (j : Fin 4) : (s.setTally i v).glyph j = s.glyph j := rfl
@[simp] theorem State.setTally_channel (s : State) (i : TallyId) (v : Tally) (j : Fin 4) : (s.setTally i v).channel j = s.channel j := rfl
@[simp] theorem State.setTally_port (s : State) (i : TallyId) (v : Tally) (j : PanelId) : (s.setTally i v).port j = s.port j := rfl
@[simp] theorem State.setTally_list (s : State) (i : TallyId) (v : Tally) (j : PanelId) : (s.setTally i v).list j = s.list j := rfl
@[simp] theorem State.setTally_region (s : State) (i : TallyId) (v : Tally) (j : PanelId) : (s.setTally i v).region j = s.region j := rfl
@[simp] theorem State.setTally_slot (s : State) (i : TallyId) (v : Tally) (j : Fin 24) : (s.setTally i v).slot j = s.slot j := rfl
@[simp] theorem State.setTally_ring (s : State) (i : TallyId) (v : Tally) (r : RingId) : (s.setTally i v).ring r = s.ring r := by cases r <;> rfl
@[simp] theorem State.setTally_binding (s : State) (i : TallyId) (v : Tally) (j : TallyId) (k : Fin 2) : (s.setTally i v).binding j k = s.binding j k := rfl

@[simp] theorem State.setGlyph_pending (s : State) (i : Fin 4) (v : GlyphSet) : (s.setGlyph i v).pending = s.pending := rfl
@[simp] theorem State.setGlyph_dev (s : State) (i : Fin 4) (v : GlyphSet) : (s.setGlyph i v).dev = s.dev := rfl
@[simp] theorem State.setGlyph_tb (s : State) (i : Fin 4) (v : GlyphSet) : (s.setGlyph i v).tb = s.tb := rfl
@[simp] theorem State.setGlyph_cins (s : State) (i : Fin 4) (v : GlyphSet) : (s.setGlyph i v).cins = s.cins := rfl
@[simp] theorem State.setGlyph_groups (s : State) (i : Fin 4) (v : GlyphSet) : (s.setGlyph i v).groups = s.groups := rfl
@[simp] theorem State.setGlyph_zones (s : State) (i : Fin 4) (v : GlyphSet) : (s.setGlyph i v).zones = s.zones := rfl
@[simp] theorem State.setGlyph_tallies (s : State) (i : Fin 4) (v : GlyphSet) : (s.setGlyph i v).tallies = s.tallies := rfl
@[simp] theorem State.setGlyph_glyphs (s : State) (i : Fin 4) (v : GlyphSet) : (s.setGlyph i v).glyphs = s.glyphs.set i v := rfl
@[simp] theorem State.setGlyph_bindings (s : State) (i : Fin 4) (v : GlyphSet) : (s.setGlyph i v).bindings = s.bindings := rfl
@[simp] theorem State.setGlyph_slots (s : State) (i : Fin 4) (v : GlyphSet) : (s.setGlyph i v).slots = s.slots := rfl
@[simp] theorem State.setGlyph_staging (s : State) (i : Fin 4) (v : GlyphSet) : (s.setGlyph i v).staging = s.staging := rfl
@[simp] theorem State.setGlyph_channels (s : State) (i : Fin 4) (v : GlyphSet) : (s.setGlyph i v).channels = s.channels := rfl
@[simp] theorem State.setGlyph_waitQueue (s : State) (i : Fin 4) (v : GlyphSet) : (s.setGlyph i v).waitQueue = s.waitQueue := rfl
@[simp] theorem State.setGlyph_rrNext (s : State) (i : Fin 4) (v : GlyphSet) : (s.setGlyph i v).rrNext = s.rrNext := rfl
@[simp] theorem State.setGlyph_flight (s : State) (i : Fin 4) (v : GlyphSet) : (s.setGlyph i v).flight = s.flight := rfl
@[simp] theorem State.setGlyph_ports (s : State) (i : Fin 4) (v : GlyphSet) : (s.setGlyph i v).ports = s.ports := rfl
@[simp] theorem State.setGlyph_lists (s : State) (i : Fin 4) (v : GlyphSet) : (s.setGlyph i v).lists = s.lists := rfl
@[simp] theorem State.setGlyph_regions (s : State) (i : Fin 4) (v : GlyphSet) : (s.setGlyph i v).regions = s.regions := rfl
@[simp] theorem State.setGlyph_ringU (s : State) (i : Fin 4) (v : GlyphSet) : (s.setGlyph i v).ringU = s.ringU := rfl
@[simp] theorem State.setGlyph_ringB (s : State) (i : Fin 4) (v : GlyphSet) : (s.setGlyph i v).ringB = s.ringB := rfl
@[simp] theorem State.setGlyph_passOver (s : State) (i : Fin 4) (v : GlyphSet) : (s.setGlyph i v).passOver = s.passOver := rfl
@[simp] theorem State.setGlyph_cpo (s : State) (i : Fin 4) (v : GlyphSet) : (s.setGlyph i v).cpo = s.cpo := rfl
@[simp] theorem State.setGlyph_cin (s : State) (i : Fin 4) (v : GlyphSet) (j : LineId) : (s.setGlyph i v).cin j = s.cin j := rfl
@[simp] theorem State.setGlyph_group (s : State) (i : Fin 4) (v : GlyphSet) (j : Fin 4) : (s.setGlyph i v).group j = s.group j := rfl
@[simp] theorem State.setGlyph_zone (s : State) (i : Fin 4) (v : GlyphSet) (j : Fin 16) : (s.setGlyph i v).zone j = s.zone j := rfl
@[simp] theorem State.setGlyph_tally (s : State) (i : Fin 4) (v : GlyphSet) (j : TallyId) : (s.setGlyph i v).tally j = s.tally j := rfl
@[simp] theorem State.setGlyph_glyph (s : State) (i : Fin 4) (v : GlyphSet) : (s.setGlyph i v).glyph i = v := by
  simp [State.setGlyph, State.glyph]
theorem State.setGlyph_glyph_of_ne (s : State) (v : GlyphSet) {i j : Fin 4} (h : i ≠ j) :
    (s.setGlyph i v).glyph j = s.glyph j := by
  simp [State.setGlyph, State.glyph, Fin.val_ne_of_ne h]
@[simp] theorem State.setGlyph_channel (s : State) (i : Fin 4) (v : GlyphSet) (j : Fin 4) : (s.setGlyph i v).channel j = s.channel j := rfl
@[simp] theorem State.setGlyph_port (s : State) (i : Fin 4) (v : GlyphSet) (j : PanelId) : (s.setGlyph i v).port j = s.port j := rfl
@[simp] theorem State.setGlyph_list (s : State) (i : Fin 4) (v : GlyphSet) (j : PanelId) : (s.setGlyph i v).list j = s.list j := rfl
@[simp] theorem State.setGlyph_region (s : State) (i : Fin 4) (v : GlyphSet) (j : PanelId) : (s.setGlyph i v).region j = s.region j := rfl
@[simp] theorem State.setGlyph_slot (s : State) (i : Fin 4) (v : GlyphSet) (j : Fin 24) : (s.setGlyph i v).slot j = s.slot j := rfl
@[simp] theorem State.setGlyph_ring (s : State) (i : Fin 4) (v : GlyphSet) (r : RingId) : (s.setGlyph i v).ring r = s.ring r := by cases r <;> rfl
@[simp] theorem State.setGlyph_binding (s : State) (i : Fin 4) (v : GlyphSet) (j : TallyId) (k : Fin 2) : (s.setGlyph i v).binding j k = s.binding j k := rfl

@[simp] theorem State.setChannel_pending (s : State) (i : Fin 4) (v : Channel) : (s.setChannel i v).pending = s.pending := rfl
@[simp] theorem State.setChannel_dev (s : State) (i : Fin 4) (v : Channel) : (s.setChannel i v).dev = s.dev := rfl
@[simp] theorem State.setChannel_tb (s : State) (i : Fin 4) (v : Channel) : (s.setChannel i v).tb = s.tb := rfl
@[simp] theorem State.setChannel_cins (s : State) (i : Fin 4) (v : Channel) : (s.setChannel i v).cins = s.cins := rfl
@[simp] theorem State.setChannel_groups (s : State) (i : Fin 4) (v : Channel) : (s.setChannel i v).groups = s.groups := rfl
@[simp] theorem State.setChannel_zones (s : State) (i : Fin 4) (v : Channel) : (s.setChannel i v).zones = s.zones := rfl
@[simp] theorem State.setChannel_tallies (s : State) (i : Fin 4) (v : Channel) : (s.setChannel i v).tallies = s.tallies := rfl
@[simp] theorem State.setChannel_glyphs (s : State) (i : Fin 4) (v : Channel) : (s.setChannel i v).glyphs = s.glyphs := rfl
@[simp] theorem State.setChannel_bindings (s : State) (i : Fin 4) (v : Channel) : (s.setChannel i v).bindings = s.bindings := rfl
@[simp] theorem State.setChannel_slots (s : State) (i : Fin 4) (v : Channel) : (s.setChannel i v).slots = s.slots := rfl
@[simp] theorem State.setChannel_staging (s : State) (i : Fin 4) (v : Channel) : (s.setChannel i v).staging = s.staging := rfl
@[simp] theorem State.setChannel_channels (s : State) (i : Fin 4) (v : Channel) : (s.setChannel i v).channels = s.channels.set i v := rfl
@[simp] theorem State.setChannel_waitQueue (s : State) (i : Fin 4) (v : Channel) : (s.setChannel i v).waitQueue = s.waitQueue := rfl
@[simp] theorem State.setChannel_rrNext (s : State) (i : Fin 4) (v : Channel) : (s.setChannel i v).rrNext = s.rrNext := rfl
@[simp] theorem State.setChannel_flight (s : State) (i : Fin 4) (v : Channel) : (s.setChannel i v).flight = s.flight := rfl
@[simp] theorem State.setChannel_ports (s : State) (i : Fin 4) (v : Channel) : (s.setChannel i v).ports = s.ports := rfl
@[simp] theorem State.setChannel_lists (s : State) (i : Fin 4) (v : Channel) : (s.setChannel i v).lists = s.lists := rfl
@[simp] theorem State.setChannel_regions (s : State) (i : Fin 4) (v : Channel) : (s.setChannel i v).regions = s.regions := rfl
@[simp] theorem State.setChannel_ringU (s : State) (i : Fin 4) (v : Channel) : (s.setChannel i v).ringU = s.ringU := rfl
@[simp] theorem State.setChannel_ringB (s : State) (i : Fin 4) (v : Channel) : (s.setChannel i v).ringB = s.ringB := rfl
@[simp] theorem State.setChannel_passOver (s : State) (i : Fin 4) (v : Channel) : (s.setChannel i v).passOver = s.passOver := rfl
@[simp] theorem State.setChannel_cpo (s : State) (i : Fin 4) (v : Channel) : (s.setChannel i v).cpo = s.cpo := rfl
@[simp] theorem State.setChannel_cin (s : State) (i : Fin 4) (v : Channel) (j : LineId) : (s.setChannel i v).cin j = s.cin j := rfl
@[simp] theorem State.setChannel_group (s : State) (i : Fin 4) (v : Channel) (j : Fin 4) : (s.setChannel i v).group j = s.group j := rfl
@[simp] theorem State.setChannel_zone (s : State) (i : Fin 4) (v : Channel) (j : Fin 16) : (s.setChannel i v).zone j = s.zone j := rfl
@[simp] theorem State.setChannel_tally (s : State) (i : Fin 4) (v : Channel) (j : TallyId) : (s.setChannel i v).tally j = s.tally j := rfl
@[simp] theorem State.setChannel_glyph (s : State) (i : Fin 4) (v : Channel) (j : Fin 4) : (s.setChannel i v).glyph j = s.glyph j := rfl
@[simp] theorem State.setChannel_channel (s : State) (i : Fin 4) (v : Channel) : (s.setChannel i v).channel i = v := by
  simp [State.setChannel, State.channel]
theorem State.setChannel_channel_of_ne (s : State) (v : Channel) {i j : Fin 4} (h : i ≠ j) :
    (s.setChannel i v).channel j = s.channel j := by
  simp [State.setChannel, State.channel, Fin.val_ne_of_ne h]
@[simp] theorem State.setChannel_port (s : State) (i : Fin 4) (v : Channel) (j : PanelId) : (s.setChannel i v).port j = s.port j := rfl
@[simp] theorem State.setChannel_list (s : State) (i : Fin 4) (v : Channel) (j : PanelId) : (s.setChannel i v).list j = s.list j := rfl
@[simp] theorem State.setChannel_region (s : State) (i : Fin 4) (v : Channel) (j : PanelId) : (s.setChannel i v).region j = s.region j := rfl
@[simp] theorem State.setChannel_slot (s : State) (i : Fin 4) (v : Channel) (j : Fin 24) : (s.setChannel i v).slot j = s.slot j := rfl
@[simp] theorem State.setChannel_ring (s : State) (i : Fin 4) (v : Channel) (r : RingId) : (s.setChannel i v).ring r = s.ring r := by cases r <;> rfl
@[simp] theorem State.setChannel_binding (s : State) (i : Fin 4) (v : Channel) (j : TallyId) (k : Fin 2) : (s.setChannel i v).binding j k = s.binding j k := rfl

@[simp] theorem State.setPort_pending (s : State) (i : PanelId) (v : Port) : (s.setPort i v).pending = s.pending := rfl
@[simp] theorem State.setPort_dev (s : State) (i : PanelId) (v : Port) : (s.setPort i v).dev = s.dev := rfl
@[simp] theorem State.setPort_tb (s : State) (i : PanelId) (v : Port) : (s.setPort i v).tb = s.tb := rfl
@[simp] theorem State.setPort_cins (s : State) (i : PanelId) (v : Port) : (s.setPort i v).cins = s.cins := rfl
@[simp] theorem State.setPort_groups (s : State) (i : PanelId) (v : Port) : (s.setPort i v).groups = s.groups := rfl
@[simp] theorem State.setPort_zones (s : State) (i : PanelId) (v : Port) : (s.setPort i v).zones = s.zones := rfl
@[simp] theorem State.setPort_tallies (s : State) (i : PanelId) (v : Port) : (s.setPort i v).tallies = s.tallies := rfl
@[simp] theorem State.setPort_glyphs (s : State) (i : PanelId) (v : Port) : (s.setPort i v).glyphs = s.glyphs := rfl
@[simp] theorem State.setPort_bindings (s : State) (i : PanelId) (v : Port) : (s.setPort i v).bindings = s.bindings := rfl
@[simp] theorem State.setPort_slots (s : State) (i : PanelId) (v : Port) : (s.setPort i v).slots = s.slots := rfl
@[simp] theorem State.setPort_staging (s : State) (i : PanelId) (v : Port) : (s.setPort i v).staging = s.staging := rfl
@[simp] theorem State.setPort_channels (s : State) (i : PanelId) (v : Port) : (s.setPort i v).channels = s.channels := rfl
@[simp] theorem State.setPort_waitQueue (s : State) (i : PanelId) (v : Port) : (s.setPort i v).waitQueue = s.waitQueue := rfl
@[simp] theorem State.setPort_rrNext (s : State) (i : PanelId) (v : Port) : (s.setPort i v).rrNext = s.rrNext := rfl
@[simp] theorem State.setPort_flight (s : State) (i : PanelId) (v : Port) : (s.setPort i v).flight = s.flight := rfl
@[simp] theorem State.setPort_ports (s : State) (i : PanelId) (v : Port) : (s.setPort i v).ports = s.ports.set i v := rfl
@[simp] theorem State.setPort_lists (s : State) (i : PanelId) (v : Port) : (s.setPort i v).lists = s.lists := rfl
@[simp] theorem State.setPort_regions (s : State) (i : PanelId) (v : Port) : (s.setPort i v).regions = s.regions := rfl
@[simp] theorem State.setPort_ringU (s : State) (i : PanelId) (v : Port) : (s.setPort i v).ringU = s.ringU := rfl
@[simp] theorem State.setPort_ringB (s : State) (i : PanelId) (v : Port) : (s.setPort i v).ringB = s.ringB := rfl
@[simp] theorem State.setPort_passOver (s : State) (i : PanelId) (v : Port) : (s.setPort i v).passOver = s.passOver := rfl
@[simp] theorem State.setPort_cpo (s : State) (i : PanelId) (v : Port) : (s.setPort i v).cpo = s.cpo := rfl
@[simp] theorem State.setPort_cin (s : State) (i : PanelId) (v : Port) (j : LineId) : (s.setPort i v).cin j = s.cin j := rfl
@[simp] theorem State.setPort_group (s : State) (i : PanelId) (v : Port) (j : Fin 4) : (s.setPort i v).group j = s.group j := rfl
@[simp] theorem State.setPort_zone (s : State) (i : PanelId) (v : Port) (j : Fin 16) : (s.setPort i v).zone j = s.zone j := rfl
@[simp] theorem State.setPort_tally (s : State) (i : PanelId) (v : Port) (j : TallyId) : (s.setPort i v).tally j = s.tally j := rfl
@[simp] theorem State.setPort_glyph (s : State) (i : PanelId) (v : Port) (j : Fin 4) : (s.setPort i v).glyph j = s.glyph j := rfl
@[simp] theorem State.setPort_channel (s : State) (i : PanelId) (v : Port) (j : Fin 4) : (s.setPort i v).channel j = s.channel j := rfl
@[simp] theorem State.setPort_port (s : State) (i : PanelId) (v : Port) : (s.setPort i v).port i = v := by
  simp [State.setPort, State.port]
theorem State.setPort_port_of_ne (s : State) (v : Port) {i j : PanelId} (h : i ≠ j) :
    (s.setPort i v).port j = s.port j := by
  simp [State.setPort, State.port, Fin.val_ne_of_ne h]
@[simp] theorem State.setPort_list (s : State) (i : PanelId) (v : Port) (j : PanelId) : (s.setPort i v).list j = s.list j := rfl
@[simp] theorem State.setPort_region (s : State) (i : PanelId) (v : Port) (j : PanelId) : (s.setPort i v).region j = s.region j := rfl
@[simp] theorem State.setPort_slot (s : State) (i : PanelId) (v : Port) (j : Fin 24) : (s.setPort i v).slot j = s.slot j := rfl
@[simp] theorem State.setPort_ring (s : State) (i : PanelId) (v : Port) (r : RingId) : (s.setPort i v).ring r = s.ring r := by cases r <;> rfl
@[simp] theorem State.setPort_binding (s : State) (i : PanelId) (v : Port) (j : TallyId) (k : Fin 2) : (s.setPort i v).binding j k = s.binding j k := rfl

@[simp] theorem State.setList_pending (s : State) (i : PanelId) (v : List Entry) : (s.setList i v).pending = s.pending := rfl
@[simp] theorem State.setList_dev (s : State) (i : PanelId) (v : List Entry) : (s.setList i v).dev = s.dev := rfl
@[simp] theorem State.setList_tb (s : State) (i : PanelId) (v : List Entry) : (s.setList i v).tb = s.tb := rfl
@[simp] theorem State.setList_cins (s : State) (i : PanelId) (v : List Entry) : (s.setList i v).cins = s.cins := rfl
@[simp] theorem State.setList_groups (s : State) (i : PanelId) (v : List Entry) : (s.setList i v).groups = s.groups := rfl
@[simp] theorem State.setList_zones (s : State) (i : PanelId) (v : List Entry) : (s.setList i v).zones = s.zones := rfl
@[simp] theorem State.setList_tallies (s : State) (i : PanelId) (v : List Entry) : (s.setList i v).tallies = s.tallies := rfl
@[simp] theorem State.setList_glyphs (s : State) (i : PanelId) (v : List Entry) : (s.setList i v).glyphs = s.glyphs := rfl
@[simp] theorem State.setList_bindings (s : State) (i : PanelId) (v : List Entry) : (s.setList i v).bindings = s.bindings := rfl
@[simp] theorem State.setList_slots (s : State) (i : PanelId) (v : List Entry) : (s.setList i v).slots = s.slots := rfl
@[simp] theorem State.setList_staging (s : State) (i : PanelId) (v : List Entry) : (s.setList i v).staging = s.staging := rfl
@[simp] theorem State.setList_channels (s : State) (i : PanelId) (v : List Entry) : (s.setList i v).channels = s.channels := rfl
@[simp] theorem State.setList_waitQueue (s : State) (i : PanelId) (v : List Entry) : (s.setList i v).waitQueue = s.waitQueue := rfl
@[simp] theorem State.setList_rrNext (s : State) (i : PanelId) (v : List Entry) : (s.setList i v).rrNext = s.rrNext := rfl
@[simp] theorem State.setList_flight (s : State) (i : PanelId) (v : List Entry) : (s.setList i v).flight = s.flight := rfl
@[simp] theorem State.setList_ports (s : State) (i : PanelId) (v : List Entry) : (s.setList i v).ports = s.ports := rfl
@[simp] theorem State.setList_lists (s : State) (i : PanelId) (v : List Entry) : (s.setList i v).lists = s.lists.set i v := rfl
@[simp] theorem State.setList_regions (s : State) (i : PanelId) (v : List Entry) : (s.setList i v).regions = s.regions := rfl
@[simp] theorem State.setList_ringU (s : State) (i : PanelId) (v : List Entry) : (s.setList i v).ringU = s.ringU := rfl
@[simp] theorem State.setList_ringB (s : State) (i : PanelId) (v : List Entry) : (s.setList i v).ringB = s.ringB := rfl
@[simp] theorem State.setList_passOver (s : State) (i : PanelId) (v : List Entry) : (s.setList i v).passOver = s.passOver := rfl
@[simp] theorem State.setList_cpo (s : State) (i : PanelId) (v : List Entry) : (s.setList i v).cpo = s.cpo := rfl
@[simp] theorem State.setList_cin (s : State) (i : PanelId) (v : List Entry) (j : LineId) : (s.setList i v).cin j = s.cin j := rfl
@[simp] theorem State.setList_group (s : State) (i : PanelId) (v : List Entry) (j : Fin 4) : (s.setList i v).group j = s.group j := rfl
@[simp] theorem State.setList_zone (s : State) (i : PanelId) (v : List Entry) (j : Fin 16) : (s.setList i v).zone j = s.zone j := rfl
@[simp] theorem State.setList_tally (s : State) (i : PanelId) (v : List Entry) (j : TallyId) : (s.setList i v).tally j = s.tally j := rfl
@[simp] theorem State.setList_glyph (s : State) (i : PanelId) (v : List Entry) (j : Fin 4) : (s.setList i v).glyph j = s.glyph j := rfl
@[simp] theorem State.setList_channel (s : State) (i : PanelId) (v : List Entry) (j : Fin 4) : (s.setList i v).channel j = s.channel j := rfl
@[simp] theorem State.setList_port (s : State) (i : PanelId) (v : List Entry) (j : PanelId) : (s.setList i v).port j = s.port j := rfl
@[simp] theorem State.setList_list (s : State) (i : PanelId) (v : List Entry) : (s.setList i v).list i = v := by
  simp [State.setList, State.list]
theorem State.setList_list_of_ne (s : State) (v : List Entry) {i j : PanelId} (h : i ≠ j) :
    (s.setList i v).list j = s.list j := by
  simp [State.setList, State.list, Fin.val_ne_of_ne h]
@[simp] theorem State.setList_region (s : State) (i : PanelId) (v : List Entry) (j : PanelId) : (s.setList i v).region j = s.region j := rfl
@[simp] theorem State.setList_slot (s : State) (i : PanelId) (v : List Entry) (j : Fin 24) : (s.setList i v).slot j = s.slot j := rfl
@[simp] theorem State.setList_ring (s : State) (i : PanelId) (v : List Entry) (r : RingId) : (s.setList i v).ring r = s.ring r := by cases r <;> rfl
@[simp] theorem State.setList_binding (s : State) (i : PanelId) (v : List Entry) (j : TallyId) (k : Fin 2) : (s.setList i v).binding j k = s.binding j k := rfl

@[simp] theorem State.setRegion_pending (s : State) (i : PanelId) (v : Memory) : (s.setRegion i v).pending = s.pending := rfl
@[simp] theorem State.setRegion_dev (s : State) (i : PanelId) (v : Memory) : (s.setRegion i v).dev = s.dev := rfl
@[simp] theorem State.setRegion_tb (s : State) (i : PanelId) (v : Memory) : (s.setRegion i v).tb = s.tb := rfl
@[simp] theorem State.setRegion_cins (s : State) (i : PanelId) (v : Memory) : (s.setRegion i v).cins = s.cins := rfl
@[simp] theorem State.setRegion_groups (s : State) (i : PanelId) (v : Memory) : (s.setRegion i v).groups = s.groups := rfl
@[simp] theorem State.setRegion_zones (s : State) (i : PanelId) (v : Memory) : (s.setRegion i v).zones = s.zones := rfl
@[simp] theorem State.setRegion_tallies (s : State) (i : PanelId) (v : Memory) : (s.setRegion i v).tallies = s.tallies := rfl
@[simp] theorem State.setRegion_glyphs (s : State) (i : PanelId) (v : Memory) : (s.setRegion i v).glyphs = s.glyphs := rfl
@[simp] theorem State.setRegion_bindings (s : State) (i : PanelId) (v : Memory) : (s.setRegion i v).bindings = s.bindings := rfl
@[simp] theorem State.setRegion_slots (s : State) (i : PanelId) (v : Memory) : (s.setRegion i v).slots = s.slots := rfl
@[simp] theorem State.setRegion_staging (s : State) (i : PanelId) (v : Memory) : (s.setRegion i v).staging = s.staging := rfl
@[simp] theorem State.setRegion_channels (s : State) (i : PanelId) (v : Memory) : (s.setRegion i v).channels = s.channels := rfl
@[simp] theorem State.setRegion_waitQueue (s : State) (i : PanelId) (v : Memory) : (s.setRegion i v).waitQueue = s.waitQueue := rfl
@[simp] theorem State.setRegion_rrNext (s : State) (i : PanelId) (v : Memory) : (s.setRegion i v).rrNext = s.rrNext := rfl
@[simp] theorem State.setRegion_flight (s : State) (i : PanelId) (v : Memory) : (s.setRegion i v).flight = s.flight := rfl
@[simp] theorem State.setRegion_ports (s : State) (i : PanelId) (v : Memory) : (s.setRegion i v).ports = s.ports := rfl
@[simp] theorem State.setRegion_lists (s : State) (i : PanelId) (v : Memory) : (s.setRegion i v).lists = s.lists := rfl
@[simp] theorem State.setRegion_regions (s : State) (i : PanelId) (v : Memory) : (s.setRegion i v).regions = s.regions.set i v := rfl
@[simp] theorem State.setRegion_ringU (s : State) (i : PanelId) (v : Memory) : (s.setRegion i v).ringU = s.ringU := rfl
@[simp] theorem State.setRegion_ringB (s : State) (i : PanelId) (v : Memory) : (s.setRegion i v).ringB = s.ringB := rfl
@[simp] theorem State.setRegion_passOver (s : State) (i : PanelId) (v : Memory) : (s.setRegion i v).passOver = s.passOver := rfl
@[simp] theorem State.setRegion_cpo (s : State) (i : PanelId) (v : Memory) : (s.setRegion i v).cpo = s.cpo := rfl
@[simp] theorem State.setRegion_cin (s : State) (i : PanelId) (v : Memory) (j : LineId) : (s.setRegion i v).cin j = s.cin j := rfl
@[simp] theorem State.setRegion_group (s : State) (i : PanelId) (v : Memory) (j : Fin 4) : (s.setRegion i v).group j = s.group j := rfl
@[simp] theorem State.setRegion_zone (s : State) (i : PanelId) (v : Memory) (j : Fin 16) : (s.setRegion i v).zone j = s.zone j := rfl
@[simp] theorem State.setRegion_tally (s : State) (i : PanelId) (v : Memory) (j : TallyId) : (s.setRegion i v).tally j = s.tally j := rfl
@[simp] theorem State.setRegion_glyph (s : State) (i : PanelId) (v : Memory) (j : Fin 4) : (s.setRegion i v).glyph j = s.glyph j := rfl
@[simp] theorem State.setRegion_channel (s : State) (i : PanelId) (v : Memory) (j : Fin 4) : (s.setRegion i v).channel j = s.channel j := rfl
@[simp] theorem State.setRegion_port (s : State) (i : PanelId) (v : Memory) (j : PanelId) : (s.setRegion i v).port j = s.port j := rfl
@[simp] theorem State.setRegion_list (s : State) (i : PanelId) (v : Memory) (j : PanelId) : (s.setRegion i v).list j = s.list j := rfl
@[simp] theorem State.setRegion_region (s : State) (i : PanelId) (v : Memory) : (s.setRegion i v).region i = v := by
  simp [State.setRegion, State.region]
theorem State.setRegion_region_of_ne (s : State) (v : Memory) {i j : PanelId} (h : i ≠ j) :
    (s.setRegion i v).region j = s.region j := by
  simp [State.setRegion, State.region, Fin.val_ne_of_ne h]
@[simp] theorem State.setRegion_slot (s : State) (i : PanelId) (v : Memory) (j : Fin 24) : (s.setRegion i v).slot j = s.slot j := rfl
@[simp] theorem State.setRegion_ring (s : State) (i : PanelId) (v : Memory) (r : RingId) : (s.setRegion i v).ring r = s.ring r := by cases r <;> rfl
@[simp] theorem State.setRegion_binding (s : State) (i : PanelId) (v : Memory) (j : TallyId) (k : Fin 2) : (s.setRegion i v).binding j k = s.binding j k := rfl

/-! ## Bindings -/

@[simp] theorem State.setBinding_pending (s : State) (i : TallyId) (k : Fin 2) (v : Option Binding) : (s.setBinding i k v).pending = s.pending := rfl
@[simp] theorem State.setBinding_dev (s : State) (i : TallyId) (k : Fin 2) (v : Option Binding) : (s.setBinding i k v).dev = s.dev := rfl
@[simp] theorem State.setBinding_tb (s : State) (i : TallyId) (k : Fin 2) (v : Option Binding) : (s.setBinding i k v).tb = s.tb := rfl
@[simp] theorem State.setBinding_cins (s : State) (i : TallyId) (k : Fin 2) (v : Option Binding) : (s.setBinding i k v).cins = s.cins := rfl
@[simp] theorem State.setBinding_groups (s : State) (i : TallyId) (k : Fin 2) (v : Option Binding) : (s.setBinding i k v).groups = s.groups := rfl
@[simp] theorem State.setBinding_zones (s : State) (i : TallyId) (k : Fin 2) (v : Option Binding) : (s.setBinding i k v).zones = s.zones := rfl
@[simp] theorem State.setBinding_tallies (s : State) (i : TallyId) (k : Fin 2) (v : Option Binding) : (s.setBinding i k v).tallies = s.tallies := rfl
@[simp] theorem State.setBinding_glyphs (s : State) (i : TallyId) (k : Fin 2) (v : Option Binding) : (s.setBinding i k v).glyphs = s.glyphs := rfl
@[simp] theorem State.setBinding_bindings (s : State) (i : TallyId) (k : Fin 2) (v : Option Binding) : (s.setBinding i k v).bindings = s.bindings.set (placeOf i k) v := rfl
@[simp] theorem State.setBinding_slots (s : State) (i : TallyId) (k : Fin 2) (v : Option Binding) : (s.setBinding i k v).slots = s.slots := rfl
@[simp] theorem State.setBinding_staging (s : State) (i : TallyId) (k : Fin 2) (v : Option Binding) : (s.setBinding i k v).staging = s.staging := rfl
@[simp] theorem State.setBinding_channels (s : State) (i : TallyId) (k : Fin 2) (v : Option Binding) : (s.setBinding i k v).channels = s.channels := rfl
@[simp] theorem State.setBinding_waitQueue (s : State) (i : TallyId) (k : Fin 2) (v : Option Binding) : (s.setBinding i k v).waitQueue = s.waitQueue := rfl
@[simp] theorem State.setBinding_rrNext (s : State) (i : TallyId) (k : Fin 2) (v : Option Binding) : (s.setBinding i k v).rrNext = s.rrNext := rfl
@[simp] theorem State.setBinding_flight (s : State) (i : TallyId) (k : Fin 2) (v : Option Binding) : (s.setBinding i k v).flight = s.flight := rfl
@[simp] theorem State.setBinding_ports (s : State) (i : TallyId) (k : Fin 2) (v : Option Binding) : (s.setBinding i k v).ports = s.ports := rfl
@[simp] theorem State.setBinding_lists (s : State) (i : TallyId) (k : Fin 2) (v : Option Binding) : (s.setBinding i k v).lists = s.lists := rfl
@[simp] theorem State.setBinding_regions (s : State) (i : TallyId) (k : Fin 2) (v : Option Binding) : (s.setBinding i k v).regions = s.regions := rfl
@[simp] theorem State.setBinding_ringU (s : State) (i : TallyId) (k : Fin 2) (v : Option Binding) : (s.setBinding i k v).ringU = s.ringU := rfl
@[simp] theorem State.setBinding_ringB (s : State) (i : TallyId) (k : Fin 2) (v : Option Binding) : (s.setBinding i k v).ringB = s.ringB := rfl
@[simp] theorem State.setBinding_passOver (s : State) (i : TallyId) (k : Fin 2) (v : Option Binding) : (s.setBinding i k v).passOver = s.passOver := rfl
@[simp] theorem State.setBinding_cpo (s : State) (i : TallyId) (k : Fin 2) (v : Option Binding) : (s.setBinding i k v).cpo = s.cpo := rfl
@[simp] theorem State.setBinding_cin (s : State) (i : TallyId) (k : Fin 2) (v : Option Binding) (j : LineId) : (s.setBinding i k v).cin j = s.cin j := rfl
@[simp] theorem State.setBinding_group (s : State) (i : TallyId) (k : Fin 2) (v : Option Binding) (j : Fin 4) : (s.setBinding i k v).group j = s.group j := rfl
@[simp] theorem State.setBinding_zone (s : State) (i : TallyId) (k : Fin 2) (v : Option Binding) (j : Fin 16) : (s.setBinding i k v).zone j = s.zone j := rfl
@[simp] theorem State.setBinding_tally (s : State) (i : TallyId) (k : Fin 2) (v : Option Binding) (j : TallyId) : (s.setBinding i k v).tally j = s.tally j := rfl
@[simp] theorem State.setBinding_glyph (s : State) (i : TallyId) (k : Fin 2) (v : Option Binding) (j : Fin 4) : (s.setBinding i k v).glyph j = s.glyph j := rfl
@[simp] theorem State.setBinding_channel (s : State) (i : TallyId) (k : Fin 2) (v : Option Binding) (j : Fin 4) : (s.setBinding i k v).channel j = s.channel j := rfl
@[simp] theorem State.setBinding_port (s : State) (i : TallyId) (k : Fin 2) (v : Option Binding) (j : PanelId) : (s.setBinding i k v).port j = s.port j := rfl
@[simp] theorem State.setBinding_list (s : State) (i : TallyId) (k : Fin 2) (v : Option Binding) (j : PanelId) : (s.setBinding i k v).list j = s.list j := rfl
@[simp] theorem State.setBinding_region (s : State) (i : TallyId) (k : Fin 2) (v : Option Binding) (j : PanelId) : (s.setBinding i k v).region j = s.region j := rfl
@[simp] theorem State.setBinding_slot (s : State) (i : TallyId) (k : Fin 2) (v : Option Binding) (j : Fin 24) : (s.setBinding i k v).slot j = s.slot j := rfl
@[simp] theorem State.setBinding_ring (s : State) (i : TallyId) (k : Fin 2) (v : Option Binding) (r : RingId) :
    (s.setBinding i k v).ring r = s.ring r := by cases r <;> rfl

/-- Every place is that of one tally and slot. -/
theorem placeOf_inj {t t' : TallyId} {k k' : Fin 2} (h : placeOf t k = placeOf t' k') : t = t' ∧ k = k' := by
  have e : 2 * t.val + k.val = 2 * t'.val + k'.val := congrArg Fin.val h
  exact ⟨Fin.ext (by omega), Fin.ext (by omega)⟩

@[simp] theorem State.setBinding_binding (s : State) (i : TallyId) (k : Fin 2) (v : Option Binding) :
    (s.setBinding i k v).binding i k = v := by simp [State.setBinding, State.binding]
theorem State.setBinding_binding_of_ne (s : State) (v : Option Binding) {i j : TallyId} {k l : Fin 2}
    (h : ¬(i = j ∧ k = l)) : (s.setBinding i k v).binding j l = s.binding j l := by
  have : (placeOf i k).val ≠ (placeOf j l).val := fun e => h (placeOf_inj (Fin.ext e))
  simp [State.setBinding, State.binding, this]

/-! ## Rings -/

@[simp] theorem State.setRing_pending (s : State) (r : RingId) (v : Ring) : (s.setRing r v).pending = s.pending := by cases r <;> rfl
@[simp] theorem State.setRing_dev (s : State) (r : RingId) (v : Ring) : (s.setRing r v).dev = s.dev := by cases r <;> rfl
@[simp] theorem State.setRing_tb (s : State) (r : RingId) (v : Ring) : (s.setRing r v).tb = s.tb := by cases r <;> rfl
@[simp] theorem State.setRing_cins (s : State) (r : RingId) (v : Ring) : (s.setRing r v).cins = s.cins := by cases r <;> rfl
@[simp] theorem State.setRing_groups (s : State) (r : RingId) (v : Ring) : (s.setRing r v).groups = s.groups := by cases r <;> rfl
@[simp] theorem State.setRing_zones (s : State) (r : RingId) (v : Ring) : (s.setRing r v).zones = s.zones := by cases r <;> rfl
@[simp] theorem State.setRing_tallies (s : State) (r : RingId) (v : Ring) : (s.setRing r v).tallies = s.tallies := by cases r <;> rfl
@[simp] theorem State.setRing_glyphs (s : State) (r : RingId) (v : Ring) : (s.setRing r v).glyphs = s.glyphs := by cases r <;> rfl
@[simp] theorem State.setRing_bindings (s : State) (r : RingId) (v : Ring) : (s.setRing r v).bindings = s.bindings := by cases r <;> rfl
@[simp] theorem State.setRing_slots (s : State) (r : RingId) (v : Ring) : (s.setRing r v).slots = s.slots := by cases r <;> rfl
@[simp] theorem State.setRing_staging (s : State) (r : RingId) (v : Ring) : (s.setRing r v).staging = s.staging := by cases r <;> rfl
@[simp] theorem State.setRing_channels (s : State) (r : RingId) (v : Ring) : (s.setRing r v).channels = s.channels := by cases r <;> rfl
@[simp] theorem State.setRing_waitQueue (s : State) (r : RingId) (v : Ring) : (s.setRing r v).waitQueue = s.waitQueue := by cases r <;> rfl
@[simp] theorem State.setRing_rrNext (s : State) (r : RingId) (v : Ring) : (s.setRing r v).rrNext = s.rrNext := by cases r <;> rfl
@[simp] theorem State.setRing_flight (s : State) (r : RingId) (v : Ring) : (s.setRing r v).flight = s.flight := by cases r <;> rfl
@[simp] theorem State.setRing_ports (s : State) (r : RingId) (v : Ring) : (s.setRing r v).ports = s.ports := by cases r <;> rfl
@[simp] theorem State.setRing_lists (s : State) (r : RingId) (v : Ring) : (s.setRing r v).lists = s.lists := by cases r <;> rfl
@[simp] theorem State.setRing_regions (s : State) (r : RingId) (v : Ring) : (s.setRing r v).regions = s.regions := by cases r <;> rfl
@[simp] theorem State.setRing_passOver (s : State) (r : RingId) (v : Ring) : (s.setRing r v).passOver = s.passOver := by cases r <;> rfl
@[simp] theorem State.setRing_cpo (s : State) (r : RingId) (v : Ring) : (s.setRing r v).cpo = s.cpo := by cases r <;> rfl
@[simp] theorem State.setRing_cin (s : State) (r : RingId) (v : Ring) (j : LineId) : (s.setRing r v).cin j = s.cin j := by
  cases r <;> rfl
@[simp] theorem State.setRing_group (s : State) (r : RingId) (v : Ring) (j : Fin 4) : (s.setRing r v).group j = s.group j := by
  cases r <;> rfl
@[simp] theorem State.setRing_zone (s : State) (r : RingId) (v : Ring) (j : Fin 16) : (s.setRing r v).zone j = s.zone j := by
  cases r <;> rfl
@[simp] theorem State.setRing_tally (s : State) (r : RingId) (v : Ring) (j : TallyId) : (s.setRing r v).tally j = s.tally j := by
  cases r <;> rfl
@[simp] theorem State.setRing_glyph (s : State) (r : RingId) (v : Ring) (j : Fin 4) : (s.setRing r v).glyph j = s.glyph j := by
  cases r <;> rfl
@[simp] theorem State.setRing_channel (s : State) (r : RingId) (v : Ring) (j : Fin 4) : (s.setRing r v).channel j = s.channel j := by
  cases r <;> rfl
@[simp] theorem State.setRing_port (s : State) (r : RingId) (v : Ring) (j : PanelId) : (s.setRing r v).port j = s.port j := by
  cases r <;> rfl
@[simp] theorem State.setRing_list (s : State) (r : RingId) (v : Ring) (j : PanelId) : (s.setRing r v).list j = s.list j := by
  cases r <;> rfl
@[simp] theorem State.setRing_region (s : State) (r : RingId) (v : Ring) (j : PanelId) : (s.setRing r v).region j = s.region j := by
  cases r <;> rfl
@[simp] theorem State.setRing_slot (s : State) (r : RingId) (v : Ring) (j : Fin 24) : (s.setRing r v).slot j = s.slot j := by
  cases r <;> rfl
@[simp] theorem State.setRing_binding (s : State) (r : RingId) (v : Ring) (j : TallyId) (k : Fin 2) :
    (s.setRing r v).binding j k = s.binding j k := by cases r <;> rfl
@[simp] theorem State.setRing_ring (s : State) (r : RingId) (v : Ring) : (s.setRing r v).ring r = v := by cases r <;> rfl
theorem State.setRing_ring_of_ne (s : State) (v : Ring) {r q : RingId} (h : r ≠ q) :
    (s.setRing r v).ring q = s.ring q := by cases r <;> cases q <;> first | rfl | exact absurd rfl h

end Sys2Proof.Machine
end

