-- ==== Sys2Proof/Laws/Poster.lean ====
section
/-! SUPPORT. What each of the Completion Poster's shared operations leaves as it is. -/

namespace Sys2Proof.Machine

/-- A fold keeps what each of its steps keeps. -/
theorem foldl_keeps {α β γ : Type} {f : α → β → α} {g : α → γ} (h : ∀ s x, g (f s x) = g s) :
    ∀ (l : List β) (s : α), g (l.foldl f s) = g s
  | [], _ => rfl
  | x :: l, s => (foldl_keeps h l (f s x)).trans (h s x)

@[simp] theorem forget_frame (t : Ticket) (s : State) :
    (forget t s).pending = s.pending ∧ (forget t s).dev = s.dev ∧ (forget t s).tb = s.tb ∧
      (forget t s).cins = s.cins ∧ (forget t s).groups = s.groups ∧ (forget t s).zones = s.zones ∧
      (forget t s).tallies = s.tallies ∧ (forget t s).glyphs = s.glyphs ∧ (forget t s).bindings = s.bindings ∧
      (forget t s).slots = s.slots ∧ (forget t s).staging = s.staging ∧ (forget t s).channels = s.channels ∧
      (forget t s).waitQueue = s.waitQueue ∧ (forget t s).rrNext = s.rrNext ∧ (forget t s).flight = s.flight ∧
      (forget t s).ports = s.ports ∧ (forget t s).lists = s.lists ∧ (forget t s).regions = s.regions ∧
      (forget t s).passOver = s.passOver ∧ (forget t s).cpo = s.cpo := by
  simp [forget]

@[simp] theorem dropTicket_frame (t : Ticket) (s : State) :
    (dropTicket t s).pending = s.pending ∧ (dropTicket t s).dev = s.dev ∧ (dropTicket t s).tb = s.tb ∧
      (dropTicket t s).cins = s.cins ∧ (dropTicket t s).groups = s.groups ∧ (dropTicket t s).zones = s.zones ∧
      (dropTicket t s).tallies = s.tallies ∧ (dropTicket t s).glyphs = s.glyphs ∧
      (dropTicket t s).bindings = s.bindings ∧ (dropTicket t s).slots = s.slots ∧
      (dropTicket t s).staging = s.staging ∧ (dropTicket t s).channels = s.channels ∧
      (dropTicket t s).waitQueue = s.waitQueue ∧ (dropTicket t s).rrNext = s.rrNext ∧
      (dropTicket t s).flight = s.flight ∧ (dropTicket t s).ports = s.ports ∧ (dropTicket t s).lists = s.lists ∧
      (dropTicket t s).regions = s.regions ∧ (dropTicket t s).passOver = s.passOver := by
  simp [dropTicket]

@[simp] theorem enqueue_frame (c : Completion) (s : State) :
    (enqueue c s).pending = s.pending ∧ (enqueue c s).dev = s.dev ∧ (enqueue c s).tb = s.tb ∧
      (enqueue c s).cins = s.cins ∧ (enqueue c s).groups = s.groups ∧ (enqueue c s).zones = s.zones ∧
      (enqueue c s).tallies = s.tallies ∧ (enqueue c s).glyphs = s.glyphs ∧ (enqueue c s).bindings = s.bindings ∧
      (enqueue c s).slots = s.slots ∧ (enqueue c s).staging = s.staging ∧ (enqueue c s).channels = s.channels ∧
      (enqueue c s).waitQueue = s.waitQueue ∧ (enqueue c s).rrNext = s.rrNext ∧ (enqueue c s).flight = s.flight ∧
      (enqueue c s).ports = s.ports ∧ (enqueue c s).lists = s.lists ∧ (enqueue c s).regions = s.regions ∧
      (enqueue c s).ringU = s.ringU ∧ (enqueue c s).ringB = s.ringB ∧ (enqueue c s).passOver = s.passOver := by
  simp [enqueue]

@[simp] theorem State.setSyncs_frame (s : State) (r : RingId) (v : List WaitingSync) :
    (s.setSyncs r v).pending = s.pending ∧ (s.setSyncs r v).dev = s.dev ∧ (s.setSyncs r v).tb = s.tb ∧
      (s.setSyncs r v).cins = s.cins ∧ (s.setSyncs r v).groups = s.groups ∧ (s.setSyncs r v).zones = s.zones ∧
      (s.setSyncs r v).tallies = s.tallies ∧ (s.setSyncs r v).glyphs = s.glyphs ∧
      (s.setSyncs r v).bindings = s.bindings ∧ (s.setSyncs r v).slots = s.slots ∧
      (s.setSyncs r v).staging = s.staging ∧ (s.setSyncs r v).channels = s.channels ∧
      (s.setSyncs r v).waitQueue = s.waitQueue ∧ (s.setSyncs r v).rrNext = s.rrNext ∧
      (s.setSyncs r v).flight = s.flight ∧ (s.setSyncs r v).ports = s.ports ∧ (s.setSyncs r v).lists = s.lists ∧
      (s.setSyncs r v).regions = s.regions ∧ (s.setSyncs r v).passOver = s.passOver ∧
      (s.setSyncs r v).cpo = s.cpo := by
  simp [State.setSyncs]

@[simp] theorem deliver_frame (c : Completion) (s : State) :
    (deliver c s).pending = s.pending ∧ (deliver c s).dev = s.dev ∧ (deliver c s).tb = s.tb ∧
      (deliver c s).cins = s.cins ∧ (deliver c s).groups = s.groups ∧ (deliver c s).zones = s.zones ∧
      (deliver c s).tallies = s.tallies ∧ (deliver c s).glyphs = s.glyphs ∧ (deliver c s).bindings = s.bindings ∧
      (deliver c s).slots = s.slots ∧ (deliver c s).staging = s.staging ∧ (deliver c s).channels = s.channels ∧
      (deliver c s).waitQueue = s.waitQueue ∧ (deliver c s).rrNext = s.rrNext ∧ (deliver c s).flight = s.flight ∧
      (deliver c s).ports = s.ports ∧ (deliver c s).lists = s.lists ∧ (deliver c s).regions = s.regions ∧
      (deliver c s).passOver = s.passOver := by
  unfold deliver; split <;> simp

@[simp] theorem answerSyncs_frame (r : RingId) (l : List WaitingSync) (s : State) :
    (answerSyncs r l s).pending = s.pending ∧ (answerSyncs r l s).dev = s.dev ∧ (answerSyncs r l s).tb = s.tb ∧
      (answerSyncs r l s).cins = s.cins ∧ (answerSyncs r l s).groups = s.groups ∧
      (answerSyncs r l s).zones = s.zones ∧ (answerSyncs r l s).tallies = s.tallies ∧
      (answerSyncs r l s).glyphs = s.glyphs ∧ (answerSyncs r l s).bindings = s.bindings ∧
      (answerSyncs r l s).slots = s.slots ∧ (answerSyncs r l s).staging = s.staging ∧
      (answerSyncs r l s).channels = s.channels ∧ (answerSyncs r l s).waitQueue = s.waitQueue ∧
      (answerSyncs r l s).rrNext = s.rrNext ∧ (answerSyncs r l s).flight = s.flight ∧
      (answerSyncs r l s).ports = s.ports ∧ (answerSyncs r l s).lists = s.lists ∧
      (answerSyncs r l s).regions = s.regions ∧ (answerSyncs r l s).passOver = s.passOver := by
  induction l generalizing s with
  | nil => simp [answerSyncs]
  | cons y l ih => unfold answerSyncs; split <;> simp [ih]

@[simp] theorem settleSyncs_frame (r : RingId) (s : State) :
    (settleSyncs r s).pending = s.pending ∧ (settleSyncs r s).dev = s.dev ∧ (settleSyncs r s).tb = s.tb ∧
      (settleSyncs r s).cins = s.cins ∧ (settleSyncs r s).groups = s.groups ∧ (settleSyncs r s).zones = s.zones ∧
      (settleSyncs r s).tallies = s.tallies ∧ (settleSyncs r s).glyphs = s.glyphs ∧
      (settleSyncs r s).bindings = s.bindings ∧ (settleSyncs r s).slots = s.slots ∧
      (settleSyncs r s).staging = s.staging ∧ (settleSyncs r s).channels = s.channels ∧
      (settleSyncs r s).waitQueue = s.waitQueue ∧ (settleSyncs r s).rrNext = s.rrNext ∧
      (settleSyncs r s).flight = s.flight ∧ (settleSyncs r s).ports = s.ports ∧ (settleSyncs r s).lists = s.lists ∧
      (settleSyncs r s).regions = s.regions ∧ (settleSyncs r s).passOver = s.passOver := by
  simp [settleSyncs]

@[simp] theorem request_frame (c : Completion) (s : State) :
    (request c s).pending = s.pending ∧ (request c s).dev = s.dev ∧ (request c s).tb = s.tb ∧
      (request c s).cins = s.cins ∧ (request c s).groups = s.groups ∧ (request c s).zones = s.zones ∧
      (request c s).tallies = s.tallies ∧ (request c s).glyphs = s.glyphs ∧ (request c s).bindings = s.bindings ∧
      (request c s).slots = s.slots ∧ (request c s).staging = s.staging ∧ (request c s).channels = s.channels ∧
      (request c s).waitQueue = s.waitQueue ∧ (request c s).rrNext = s.rrNext ∧ (request c s).flight = s.flight ∧
      (request c s).ports = s.ports ∧ (request c s).lists = s.lists ∧ (request c s).regions = s.regions ∧
      (request c s).passOver = s.passOver := by
  unfold request; split <;> simp

@[simp] theorem answer_frame (t : Ticket) (x : Status) (a b : Word) (s : State) :
    (answer t x a b s).pending = s.pending ∧ (answer t x a b s).dev = s.dev ∧ (answer t x a b s).tb = s.tb ∧
      (answer t x a b s).cins = s.cins ∧ (answer t x a b s).groups = s.groups ∧
      (answer t x a b s).zones = s.zones ∧ (answer t x a b s).tallies = s.tallies ∧
      (answer t x a b s).glyphs = s.glyphs ∧ (answer t x a b s).bindings = s.bindings ∧
      (answer t x a b s).slots = s.slots ∧ (answer t x a b s).staging = s.staging ∧
      (answer t x a b s).channels = s.channels ∧ (answer t x a b s).waitQueue = s.waitQueue ∧
      (answer t x a b s).rrNext = s.rrNext ∧ (answer t x a b s).flight = s.flight ∧
      (answer t x a b s).ports = s.ports ∧ (answer t x a b s).lists = s.lists ∧
      (answer t x a b s).regions = s.regions ∧ (answer t x a b s).passOver = s.passOver := by
  simp [answer]

@[simp] theorem answerAll_frame (l : List Ticket) (x : Status) (a b : Word) (s : State) :
    (answerAll l x a b s).pending = s.pending ∧ (answerAll l x a b s).dev = s.dev ∧
      (answerAll l x a b s).tb = s.tb ∧ (answerAll l x a b s).cins = s.cins ∧
      (answerAll l x a b s).groups = s.groups ∧ (answerAll l x a b s).zones = s.zones ∧
      (answerAll l x a b s).tallies = s.tallies ∧ (answerAll l x a b s).glyphs = s.glyphs ∧
      (answerAll l x a b s).bindings = s.bindings ∧ (answerAll l x a b s).slots = s.slots ∧
      (answerAll l x a b s).staging = s.staging ∧ (answerAll l x a b s).channels = s.channels ∧
      (answerAll l x a b s).waitQueue = s.waitQueue ∧ (answerAll l x a b s).rrNext = s.rrNext ∧
      (answerAll l x a b s).flight = s.flight ∧ (answerAll l x a b s).ports = s.ports ∧
      (answerAll l x a b s).lists = s.lists ∧ (answerAll l x a b s).regions = s.regions ∧
      (answerAll l x a b s).passOver = s.passOver := by
  unfold answerAll
  refine ⟨?_, ?_, ?_, ?_, ?_, ?_, ?_, ?_, ?_, ?_, ?_, ?_, ?_, ?_, ?_, ?_, ?_, ?_, ?_⟩ <;> exact foldl_keeps (by intros; simp) _ _

@[simp] theorem presentEvent_frame (e : EventSource) (s : State) :
    (presentEvent e s).pending = s.pending ∧ (presentEvent e s).dev = s.dev ∧ (presentEvent e s).tb = s.tb ∧
      (presentEvent e s).cins = s.cins ∧ (presentEvent e s).groups = s.groups ∧
      (presentEvent e s).zones = s.zones ∧ (presentEvent e s).tallies = s.tallies ∧
      (presentEvent e s).glyphs = s.glyphs ∧ (presentEvent e s).bindings = s.bindings ∧
      (presentEvent e s).slots = s.slots ∧ (presentEvent e s).staging = s.staging ∧
      (presentEvent e s).channels = s.channels ∧ (presentEvent e s).waitQueue = s.waitQueue ∧
      (presentEvent e s).rrNext = s.rrNext ∧ (presentEvent e s).flight = s.flight ∧
      (presentEvent e s).ports = s.ports ∧ (presentEvent e s).lists = s.lists ∧
      (presentEvent e s).regions = s.regions ∧ (presentEvent e s).ringU = s.ringU ∧
      (presentEvent e s).ringB = s.ringB ∧ (presentEvent e s).passOver = s.passOver := by
  simp [presentEvent]

@[simp] theorem presentCompletion_frame (s : State) :
    (presentCompletion s).pending = s.pending ∧ (presentCompletion s).dev = s.dev ∧
      (presentCompletion s).tb = s.tb ∧ (presentCompletion s).cins = s.cins ∧
      (presentCompletion s).groups = s.groups ∧ (presentCompletion s).zones = s.zones ∧
      (presentCompletion s).tallies = s.tallies ∧ (presentCompletion s).glyphs = s.glyphs ∧
      (presentCompletion s).bindings = s.bindings ∧ (presentCompletion s).slots = s.slots ∧
      (presentCompletion s).staging = s.staging ∧ (presentCompletion s).channels = s.channels ∧
      (presentCompletion s).waitQueue = s.waitQueue ∧ (presentCompletion s).rrNext = s.rrNext ∧
      (presentCompletion s).flight = s.flight ∧ (presentCompletion s).ports = s.ports ∧
      (presentCompletion s).lists = s.lists ∧ (presentCompletion s).regions = s.regions ∧
      (presentCompletion s).ringU = s.ringU ∧ (presentCompletion s).ringB = s.ringB ∧
      (presentCompletion s).passOver = s.passOver := by
  simp [presentCompletion]

@[simp] theorem chooseWrite_frame (s : State) :
    (chooseWrite s).pending = s.pending ∧ (chooseWrite s).dev = s.dev ∧ (chooseWrite s).tb = s.tb ∧
      (chooseWrite s).cins = s.cins ∧ (chooseWrite s).groups = s.groups ∧ (chooseWrite s).zones = s.zones ∧
      (chooseWrite s).tallies = s.tallies ∧ (chooseWrite s).glyphs = s.glyphs ∧
      (chooseWrite s).bindings = s.bindings ∧ (chooseWrite s).slots = s.slots ∧
      (chooseWrite s).staging = s.staging ∧ (chooseWrite s).channels = s.channels ∧
      (chooseWrite s).waitQueue = s.waitQueue ∧ (chooseWrite s).rrNext = s.rrNext ∧
      (chooseWrite s).flight = s.flight ∧ (chooseWrite s).ports = s.ports ∧ (chooseWrite s).lists = s.lists ∧
      (chooseWrite s).regions = s.regions ∧ (chooseWrite s).ringU = s.ringU ∧ (chooseWrite s).ringB = s.ringB ∧
      (chooseWrite s).passOver = s.passOver := by
  unfold chooseWrite; try dsimp only
  repeat' split
  all_goals simp

@[simp] theorem withdrawStaleEvent_frame (s : State) :
    (withdrawStaleEvent s).pending = s.pending ∧ (withdrawStaleEvent s).dev = s.dev ∧
      (withdrawStaleEvent s).tb = s.tb ∧ (withdrawStaleEvent s).cins = s.cins ∧
      (withdrawStaleEvent s).groups = s.groups ∧ (withdrawStaleEvent s).zones = s.zones ∧
      (withdrawStaleEvent s).tallies = s.tallies ∧ (withdrawStaleEvent s).glyphs = s.glyphs ∧
      (withdrawStaleEvent s).bindings = s.bindings ∧ (withdrawStaleEvent s).slots = s.slots ∧
      (withdrawStaleEvent s).staging = s.staging ∧ (withdrawStaleEvent s).channels = s.channels ∧
      (withdrawStaleEvent s).waitQueue = s.waitQueue ∧ (withdrawStaleEvent s).rrNext = s.rrNext ∧
      (withdrawStaleEvent s).flight = s.flight ∧ (withdrawStaleEvent s).ports = s.ports ∧
      (withdrawStaleEvent s).lists = s.lists ∧ (withdrawStaleEvent s).regions = s.regions ∧
      (withdrawStaleEvent s).ringU = s.ringU ∧ (withdrawStaleEvent s).ringB = s.ringB ∧
      (withdrawStaleEvent s).passOver = s.passOver := by
  unfold withdrawStaleEvent; try dsimp only
  repeat' split
  all_goals simp

@[simp] theorem handPanelFault_frame (p : PanelId) (n : Word) (s : State) :
    (handPanelFault p n s).pending = s.pending ∧ (handPanelFault p n s).dev = s.dev ∧
      (handPanelFault p n s).tb = s.tb ∧ (handPanelFault p n s).cins = s.cins ∧
      (handPanelFault p n s).groups = s.groups ∧ (handPanelFault p n s).zones = s.zones ∧
      (handPanelFault p n s).tallies = s.tallies ∧ (handPanelFault p n s).glyphs = s.glyphs ∧
      (handPanelFault p n s).bindings = s.bindings ∧ (handPanelFault p n s).slots = s.slots ∧
      (handPanelFault p n s).staging = s.staging ∧ (handPanelFault p n s).channels = s.channels ∧
      (handPanelFault p n s).waitQueue = s.waitQueue ∧ (handPanelFault p n s).rrNext = s.rrNext ∧
      (handPanelFault p n s).flight = s.flight ∧ (handPanelFault p n s).ports = s.ports ∧
      (handPanelFault p n s).lists = s.lists ∧ (handPanelFault p n s).regions = s.regions ∧
      (handPanelFault p n s).ringU = s.ringU ∧ (handPanelFault p n s).ringB = s.ringB ∧
      (handPanelFault p n s).passOver = s.passOver := by
  unfold handPanelFault; try dsimp only
  repeat' split
  all_goals simp

@[simp] theorem handRingFault_frame (r : RingId) (c : RingCause) (s : State) :
    (handRingFault r c s).pending = s.pending ∧ (handRingFault r c s).dev = s.dev ∧
      (handRingFault r c s).tb = s.tb ∧ (handRingFault r c s).cins = s.cins ∧
      (handRingFault r c s).groups = s.groups ∧ (handRingFault r c s).zones = s.zones ∧
      (handRingFault r c s).tallies = s.tallies ∧ (handRingFault r c s).glyphs = s.glyphs ∧
      (handRingFault r c s).bindings = s.bindings ∧ (handRingFault r c s).slots = s.slots ∧
      (handRingFault r c s).staging = s.staging ∧ (handRingFault r c s).channels = s.channels ∧
      (handRingFault r c s).waitQueue = s.waitQueue ∧ (handRingFault r c s).rrNext = s.rrNext ∧
      (handRingFault r c s).flight = s.flight ∧ (handRingFault r c s).ports = s.ports ∧
      (handRingFault r c s).lists = s.lists ∧ (handRingFault r c s).regions = s.regions ∧
      (handRingFault r c s).ringU = s.ringU ∧ (handRingFault r c s).ringB = s.ringB ∧
      (handRingFault r c s).passOver = s.passOver := by
  unfold handRingFault; try dsimp only
  repeat' split
  all_goals simp

@[simp] theorem clearEvent_frame (e : EventSource) (s : State) :
    (clearEvent e s).pending = s.pending ∧ (clearEvent e s).dev = s.dev ∧ (clearEvent e s).tb = s.tb ∧
      (clearEvent e s).cins = s.cins ∧ (clearEvent e s).groups = s.groups ∧ (clearEvent e s).zones = s.zones ∧
      (clearEvent e s).glyphs = s.glyphs ∧ (clearEvent e s).bindings = s.bindings ∧
      (clearEvent e s).slots = s.slots ∧ (clearEvent e s).staging = s.staging ∧
      (clearEvent e s).channels = s.channels ∧ (clearEvent e s).waitQueue = s.waitQueue ∧
      (clearEvent e s).rrNext = s.rrNext ∧ (clearEvent e s).flight = s.flight ∧ (clearEvent e s).ports = s.ports ∧
      (clearEvent e s).lists = s.lists ∧ (clearEvent e s).regions = s.regions ∧ (clearEvent e s).ringU = s.ringU ∧
      (clearEvent e s).ringB = s.ringB ∧ (clearEvent e s).passOver = s.passOver := by
  unfold clearEvent; try dsimp only
  repeat' split
  all_goals simp

@[simp] theorem dropQueue_frame (s : State) :
    (dropQueue s).pending = s.pending ∧ (dropQueue s).dev = s.dev ∧ (dropQueue s).tb = s.tb ∧
      (dropQueue s).cins = s.cins ∧ (dropQueue s).groups = s.groups ∧ (dropQueue s).zones = s.zones ∧
      (dropQueue s).tallies = s.tallies ∧ (dropQueue s).glyphs = s.glyphs ∧ (dropQueue s).bindings = s.bindings ∧
      (dropQueue s).slots = s.slots ∧ (dropQueue s).staging = s.staging ∧ (dropQueue s).channels = s.channels ∧
      (dropQueue s).waitQueue = s.waitQueue ∧ (dropQueue s).rrNext = s.rrNext ∧ (dropQueue s).flight = s.flight ∧
      (dropQueue s).ports = s.ports ∧ (dropQueue s).lists = s.lists ∧ (dropQueue s).regions = s.regions ∧
      (dropQueue s).passOver = s.passOver := by
  unfold dropQueue
  refine ⟨?_, ?_, ?_, ?_, ?_, ?_, ?_, ?_, ?_, ?_, ?_, ?_, ?_, ?_, ?_, ?_, ?_, ?_, ?_⟩ <;> exact (foldl_keeps (by intros; simp) _ _).trans (by simp)

@[simp] theorem qfaultState_frame (c : PosterCause) (s : State) :
    (qfaultState c s).pending = s.pending ∧ (qfaultState c s).tb = s.tb ∧ (qfaultState c s).cins = s.cins ∧
      (qfaultState c s).groups = s.groups ∧ (qfaultState c s).zones = s.zones ∧
      (qfaultState c s).tallies = s.tallies ∧ (qfaultState c s).glyphs = s.glyphs ∧
      (qfaultState c s).bindings = s.bindings ∧ (qfaultState c s).slots = s.slots ∧
      (qfaultState c s).staging = s.staging ∧ (qfaultState c s).channels = s.channels ∧
      (qfaultState c s).waitQueue = s.waitQueue ∧ (qfaultState c s).rrNext = s.rrNext ∧
      (qfaultState c s).flight = s.flight ∧ (qfaultState c s).ports = s.ports ∧ (qfaultState c s).lists = s.lists ∧
      (qfaultState c s).regions = s.regions ∧ (qfaultState c s).ringU = s.ringU ∧
      (qfaultState c s).ringB = s.ringB ∧ (qfaultState c s).passOver = s.passOver := by
  simp [qfaultState]

@[simp] theorem enterQfault_frame (c : PosterCause) (s : State) :
    (enterQfault c s).pending = s.pending ∧ (enterQfault c s).tb = s.tb ∧ (enterQfault c s).cins = s.cins ∧
      (enterQfault c s).groups = s.groups ∧ (enterQfault c s).zones = s.zones ∧
      (enterQfault c s).tallies = s.tallies ∧ (enterQfault c s).glyphs = s.glyphs ∧
      (enterQfault c s).bindings = s.bindings ∧ (enterQfault c s).slots = s.slots ∧
      (enterQfault c s).staging = s.staging ∧ (enterQfault c s).channels = s.channels ∧
      (enterQfault c s).waitQueue = s.waitQueue ∧ (enterQfault c s).rrNext = s.rrNext ∧
      (enterQfault c s).flight = s.flight ∧ (enterQfault c s).ports = s.ports ∧ (enterQfault c s).lists = s.lists ∧
      (enterQfault c s).regions = s.regions ∧ (enterQfault c s).passOver = s.passOver := by
  simp [enterQfault]

@[simp] theorem advancePost_frame (s : State) :
    (advancePost s).pending = s.pending ∧ (advancePost s).dev = s.dev ∧ (advancePost s).tb = s.tb ∧
      (advancePost s).cins = s.cins ∧ (advancePost s).groups = s.groups ∧ (advancePost s).zones = s.zones ∧
      (advancePost s).tallies = s.tallies ∧ (advancePost s).glyphs = s.glyphs ∧
      (advancePost s).bindings = s.bindings ∧ (advancePost s).slots = s.slots ∧
      (advancePost s).staging = s.staging ∧ (advancePost s).channels = s.channels ∧
      (advancePost s).waitQueue = s.waitQueue ∧ (advancePost s).rrNext = s.rrNext ∧
      (advancePost s).flight = s.flight ∧ (advancePost s).ports = s.ports ∧ (advancePost s).lists = s.lists ∧
      (advancePost s).regions = s.regions ∧ (advancePost s).ringU = s.ringU ∧ (advancePost s).ringB = s.ringB ∧
      (advancePost s).passOver = s.passOver := by
  simp [advancePost]

@[simp] theorem posterWritten_frame (w : PosterWrite) (s : State) :
    (posterWritten w s).pending = s.pending ∧ (posterWritten w s).dev = s.dev ∧ (posterWritten w s).tb = s.tb ∧
      (posterWritten w s).cins = s.cins ∧ (posterWritten w s).groups = s.groups ∧
      (posterWritten w s).zones = s.zones ∧ (posterWritten w s).tallies = s.tallies ∧
      (posterWritten w s).glyphs = s.glyphs ∧ (posterWritten w s).bindings = s.bindings ∧
      (posterWritten w s).slots = s.slots ∧ (posterWritten w s).staging = s.staging ∧
      (posterWritten w s).channels = s.channels ∧ (posterWritten w s).waitQueue = s.waitQueue ∧
      (posterWritten w s).rrNext = s.rrNext ∧ (posterWritten w s).flight = s.flight ∧
      (posterWritten w s).ports = s.ports ∧ (posterWritten w s).lists = s.lists ∧
      (posterWritten w s).regions = s.regions ∧ (posterWritten w s).passOver = s.passOver := by
  unfold posterWritten; try dsimp only
  repeat' split
  all_goals simp

@[simp] theorem posterFailed_frame (w : PosterWrite) (c : PosterCause) (s : State) :
    (posterFailed w c s).pending = s.pending ∧ (posterFailed w c s).tb = s.tb ∧
      (posterFailed w c s).cins = s.cins ∧ (posterFailed w c s).groups = s.groups ∧
      (posterFailed w c s).zones = s.zones ∧ (posterFailed w c s).tallies = s.tallies ∧
      (posterFailed w c s).glyphs = s.glyphs ∧ (posterFailed w c s).bindings = s.bindings ∧
      (posterFailed w c s).slots = s.slots ∧ (posterFailed w c s).staging = s.staging ∧
      (posterFailed w c s).channels = s.channels ∧ (posterFailed w c s).waitQueue = s.waitQueue ∧
      (posterFailed w c s).rrNext = s.rrNext ∧ (posterFailed w c s).flight = s.flight ∧
      (posterFailed w c s).ports = s.ports ∧ (posterFailed w c s).lists = s.lists ∧
      (posterFailed w c s).regions = s.regions ∧ (posterFailed w c s).passOver = s.passOver := by
  unfold posterFailed; split <;> (try split) <;> simp

end Sys2Proof.Machine
end

