-- ==== Sys2Proof/Laws/Transfer.lean ====
section
/-! SUPPORT. What each of the Staging Pool's and the Transfer Unit's shared operations leaves as it is. -/

namespace Sys2Proof.Machine

@[simp] theorem setSlotsOf_frame (l : List (Fin 24)) (v : SlotState) (s : State) :
    (setSlotsOf l v s).pending = s.pending ∧ (setSlotsOf l v s).dev = s.dev ∧ (setSlotsOf l v s).tb = s.tb ∧
      (setSlotsOf l v s).cins = s.cins ∧ (setSlotsOf l v s).groups = s.groups ∧
      (setSlotsOf l v s).zones = s.zones ∧ (setSlotsOf l v s).tallies = s.tallies ∧
      (setSlotsOf l v s).glyphs = s.glyphs ∧ (setSlotsOf l v s).bindings = s.bindings ∧
      (setSlotsOf l v s).staging = s.staging ∧ (setSlotsOf l v s).channels = s.channels ∧
      (setSlotsOf l v s).waitQueue = s.waitQueue ∧ (setSlotsOf l v s).rrNext = s.rrNext ∧
      (setSlotsOf l v s).flight = s.flight ∧ (setSlotsOf l v s).ports = s.ports ∧
      (setSlotsOf l v s).lists = s.lists ∧ (setSlotsOf l v s).regions = s.regions ∧
      (setSlotsOf l v s).ringU = s.ringU ∧ (setSlotsOf l v s).ringB = s.ringB ∧
      (setSlotsOf l v s).passOver = s.passOver ∧ (setSlotsOf l v s).cpo = s.cpo := by
  simp [setSlotsOf]

@[simp] theorem moveSlots_frame (x v : SlotState) (s : State) :
    (moveSlots x v s).pending = s.pending ∧ (moveSlots x v s).dev = s.dev ∧ (moveSlots x v s).tb = s.tb ∧
      (moveSlots x v s).cins = s.cins ∧ (moveSlots x v s).groups = s.groups ∧ (moveSlots x v s).zones = s.zones ∧
      (moveSlots x v s).tallies = s.tallies ∧ (moveSlots x v s).glyphs = s.glyphs ∧
      (moveSlots x v s).bindings = s.bindings ∧ (moveSlots x v s).staging = s.staging ∧
      (moveSlots x v s).channels = s.channels ∧ (moveSlots x v s).waitQueue = s.waitQueue ∧
      (moveSlots x v s).rrNext = s.rrNext ∧ (moveSlots x v s).flight = s.flight ∧
      (moveSlots x v s).ports = s.ports ∧ (moveSlots x v s).lists = s.lists ∧
      (moveSlots x v s).regions = s.regions ∧ (moveSlots x v s).ringU = s.ringU ∧
      (moveSlots x v s).ringB = s.ringB ∧ (moveSlots x v s).passOver = s.passOver ∧
      (moveSlots x v s).cpo = s.cpo := by
  simp [moveSlots]

@[simp] theorem releaseStall_frame (r : RingId) (s : State) :
    (releaseStall r s).pending = s.pending ∧ (releaseStall r s).dev = s.dev ∧ (releaseStall r s).tb = s.tb ∧
      (releaseStall r s).cins = s.cins ∧ (releaseStall r s).groups = s.groups ∧
      (releaseStall r s).zones = s.zones ∧ (releaseStall r s).tallies = s.tallies ∧
      (releaseStall r s).glyphs = s.glyphs ∧ (releaseStall r s).bindings = s.bindings ∧
      (releaseStall r s).slots = s.slots ∧ (releaseStall r s).staging = s.staging ∧
      (releaseStall r s).channels = s.channels ∧ (releaseStall r s).waitQueue = s.waitQueue ∧
      (releaseStall r s).rrNext = s.rrNext ∧ (releaseStall r s).flight = s.flight ∧
      (releaseStall r s).ports = s.ports ∧ (releaseStall r s).lists = s.lists ∧
      (releaseStall r s).regions = s.regions ∧ (releaseStall r s).passOver = s.passOver ∧
      (releaseStall r s).cpo = s.cpo := by
  unfold releaseStall; try dsimp only
  repeat' split
  all_goals simp

@[simp] theorem releaseStalls_frame (s : State) :
    (releaseStalls s).pending = s.pending ∧ (releaseStalls s).dev = s.dev ∧ (releaseStalls s).tb = s.tb ∧
      (releaseStalls s).cins = s.cins ∧ (releaseStalls s).groups = s.groups ∧ (releaseStalls s).zones = s.zones ∧
      (releaseStalls s).tallies = s.tallies ∧ (releaseStalls s).glyphs = s.glyphs ∧
      (releaseStalls s).bindings = s.bindings ∧ (releaseStalls s).slots = s.slots ∧
      (releaseStalls s).staging = s.staging ∧ (releaseStalls s).channels = s.channels ∧
      (releaseStalls s).waitQueue = s.waitQueue ∧ (releaseStalls s).rrNext = s.rrNext ∧
      (releaseStalls s).flight = s.flight ∧ (releaseStalls s).ports = s.ports ∧ (releaseStalls s).lists = s.lists ∧
      (releaseStalls s).regions = s.regions ∧ (releaseStalls s).passOver = s.passOver ∧
      (releaseStalls s).cpo = s.cpo := by
  simp [releaseStalls]

@[simp] theorem freeOwned_frame (o : Owner) (s : State) :
    (freeOwned o s).pending = s.pending ∧ (freeOwned o s).dev = s.dev ∧ (freeOwned o s).tb = s.tb ∧
      (freeOwned o s).cins = s.cins ∧ (freeOwned o s).groups = s.groups ∧ (freeOwned o s).zones = s.zones ∧
      (freeOwned o s).tallies = s.tallies ∧ (freeOwned o s).glyphs = s.glyphs ∧
      (freeOwned o s).bindings = s.bindings ∧ (freeOwned o s).staging = s.staging ∧
      (freeOwned o s).channels = s.channels ∧ (freeOwned o s).waitQueue = s.waitQueue ∧
      (freeOwned o s).rrNext = s.rrNext ∧ (freeOwned o s).flight = s.flight ∧ (freeOwned o s).ports = s.ports ∧
      (freeOwned o s).lists = s.lists ∧ (freeOwned o s).regions = s.regions ∧
      (freeOwned o s).passOver = s.passOver ∧ (freeOwned o s).cpo = s.cpo := by
  simp [freeOwned]

@[simp] theorem freeReclaimed_frame (s : State) :
    (freeReclaimed s).pending = s.pending ∧ (freeReclaimed s).dev = s.dev ∧ (freeReclaimed s).tb = s.tb ∧
      (freeReclaimed s).cins = s.cins ∧ (freeReclaimed s).groups = s.groups ∧ (freeReclaimed s).zones = s.zones ∧
      (freeReclaimed s).tallies = s.tallies ∧ (freeReclaimed s).glyphs = s.glyphs ∧
      (freeReclaimed s).bindings = s.bindings ∧ (freeReclaimed s).staging = s.staging ∧
      (freeReclaimed s).channels = s.channels ∧ (freeReclaimed s).waitQueue = s.waitQueue ∧
      (freeReclaimed s).rrNext = s.rrNext ∧ (freeReclaimed s).flight = s.flight ∧
      (freeReclaimed s).ports = s.ports ∧ (freeReclaimed s).lists = s.lists ∧
      (freeReclaimed s).regions = s.regions ∧ (freeReclaimed s).passOver = s.passOver ∧
      (freeReclaimed s).cpo = s.cpo := by
  simp [freeReclaimed]

/-- An allocation marks the lowest-numbered FREE slots and changes nothing else (R63). -/
theorem allocate_some {need : Nat} {o : Owner} {s s' : State} {l : List (Fin 24)}
    (h : allocate need o s = some (l, s')) :
    need ≤ s.freeSlots.length ∧ l = s.freeSlots.take need ∧ s' = setSlotsOf l (.owned o) s := by
  unfold allocate at h
  split at h
  · rename_i hle
    obtain ⟨rfl, rfl⟩ := Prod.mk.inj (Option.some.inj h)
    exact ⟨hle, rfl, rfl⟩
  · cases h

/-- An allocation fails only for want of slots (R63). -/
theorem allocate_none {need : Nat} {o : Owner} {s : State} (h : allocate need o s = none) :
    s.freeSlots.length < need := by
  unfold allocate at h
  split at h
  · cases h
  · omega

@[simp] theorem removeEntry_frame (p : PanelId) (e : Entry) (s : State) :
    (removeEntry p e s).pending = s.pending ∧ (removeEntry p e s).dev = s.dev ∧ (removeEntry p e s).tb = s.tb ∧
      (removeEntry p e s).cins = s.cins ∧ (removeEntry p e s).groups = s.groups ∧
      (removeEntry p e s).zones = s.zones ∧ (removeEntry p e s).tallies = s.tallies ∧
      (removeEntry p e s).glyphs = s.glyphs ∧ (removeEntry p e s).bindings = s.bindings ∧
      (removeEntry p e s).slots = s.slots ∧ (removeEntry p e s).staging = s.staging ∧
      (removeEntry p e s).channels = s.channels ∧ (removeEntry p e s).waitQueue = s.waitQueue ∧
      (removeEntry p e s).rrNext = s.rrNext ∧ (removeEntry p e s).flight = s.flight ∧
      (removeEntry p e s).ports = s.ports ∧ (removeEntry p e s).regions = s.regions ∧
      (removeEntry p e s).ringU = s.ringU ∧ (removeEntry p e s).ringB = s.ringB ∧
      (removeEntry p e s).passOver = s.passOver ∧ (removeEntry p e s).cpo = s.cpo := by
  simp [removeEntry]

@[simp] theorem mapEntry_frame (p : PanelId) (r : RingId) (n : Word) (f : Entry → Entry) (s : State) :
    (mapEntry p r n f s).pending = s.pending ∧ (mapEntry p r n f s).dev = s.dev ∧ (mapEntry p r n f s).tb = s.tb ∧
      (mapEntry p r n f s).cins = s.cins ∧ (mapEntry p r n f s).groups = s.groups ∧
      (mapEntry p r n f s).zones = s.zones ∧ (mapEntry p r n f s).tallies = s.tallies ∧
      (mapEntry p r n f s).glyphs = s.glyphs ∧ (mapEntry p r n f s).bindings = s.bindings ∧
      (mapEntry p r n f s).slots = s.slots ∧ (mapEntry p r n f s).staging = s.staging ∧
      (mapEntry p r n f s).channels = s.channels ∧ (mapEntry p r n f s).waitQueue = s.waitQueue ∧
      (mapEntry p r n f s).rrNext = s.rrNext ∧ (mapEntry p r n f s).flight = s.flight ∧
      (mapEntry p r n f s).ports = s.ports ∧ (mapEntry p r n f s).regions = s.regions ∧
      (mapEntry p r n f s).ringU = s.ringU ∧ (mapEntry p r n f s).ringB = s.ringB ∧
      (mapEntry p r n f s).passOver = s.passOver ∧ (mapEntry p r n f s).cpo = s.cpo := by
  simp [mapEntry]

@[simp] theorem markGranted_frame (op : Operation) (s : State) :
    (markGranted op s).pending = s.pending ∧ (markGranted op s).dev = s.dev ∧ (markGranted op s).tb = s.tb ∧
      (markGranted op s).cins = s.cins ∧ (markGranted op s).groups = s.groups ∧
      (markGranted op s).zones = s.zones ∧ (markGranted op s).tallies = s.tallies ∧
      (markGranted op s).glyphs = s.glyphs ∧ (markGranted op s).bindings = s.bindings ∧
      (markGranted op s).slots = s.slots ∧ (markGranted op s).staging = s.staging ∧
      (markGranted op s).channels = s.channels ∧ (markGranted op s).waitQueue = s.waitQueue ∧
      (markGranted op s).rrNext = s.rrNext ∧ (markGranted op s).flight = s.flight ∧
      (markGranted op s).ports = s.ports ∧ (markGranted op s).regions = s.regions ∧
      (markGranted op s).ringU = s.ringU ∧ (markGranted op s).ringB = s.ringB ∧
      (markGranted op s).passOver = s.passOver ∧ (markGranted op s).cpo = s.cpo := by
  unfold markGranted; try dsimp only
  repeat' split
  all_goals simp

@[simp] theorem grantTo_frame (s : State) (c : Fin 4) :
    (grantTo s c).pending = s.pending ∧ (grantTo s c).dev = s.dev ∧ (grantTo s c).tb = s.tb ∧
      (grantTo s c).cins = s.cins ∧ (grantTo s c).groups = s.groups ∧ (grantTo s c).zones = s.zones ∧
      (grantTo s c).tallies = s.tallies ∧ (grantTo s c).glyphs = s.glyphs ∧ (grantTo s c).bindings = s.bindings ∧
      (grantTo s c).slots = s.slots ∧ (grantTo s c).staging = s.staging ∧ (grantTo s c).rrNext = s.rrNext ∧
      (grantTo s c).flight = s.flight ∧ (grantTo s c).ports = s.ports ∧ (grantTo s c).regions = s.regions ∧
      (grantTo s c).ringU = s.ringU ∧ (grantTo s c).ringB = s.ringB ∧ (grantTo s c).passOver = s.passOver ∧
      (grantTo s c).cpo = s.cpo := by
  unfold grantTo; try dsimp only
  repeat' split
  all_goals simp

@[simp] theorem grantAll_frame (s : State) :
    (grantAll s).pending = s.pending ∧ (grantAll s).dev = s.dev ∧ (grantAll s).tb = s.tb ∧
      (grantAll s).cins = s.cins ∧ (grantAll s).groups = s.groups ∧ (grantAll s).zones = s.zones ∧
      (grantAll s).tallies = s.tallies ∧ (grantAll s).glyphs = s.glyphs ∧ (grantAll s).bindings = s.bindings ∧
      (grantAll s).slots = s.slots ∧ (grantAll s).staging = s.staging ∧ (grantAll s).rrNext = s.rrNext ∧
      (grantAll s).flight = s.flight ∧ (grantAll s).ports = s.ports ∧ (grantAll s).regions = s.regions ∧
      (grantAll s).ringU = s.ringU ∧ (grantAll s).ringB = s.ringB ∧ (grantAll s).passOver = s.passOver ∧
      (grantAll s).cpo = s.cpo := by
  unfold grantAll
  refine ⟨?_, ?_, ?_, ?_, ?_, ?_, ?_, ?_, ?_, ?_, ?_, ?_, ?_, ?_, ?_, ?_, ?_, ?_, ?_⟩ <;> exact foldl_keeps (by intros; simp) _ _

@[simp] theorem joinQueue_frame (op : Operation) (s : State) :
    (joinQueue op s).pending = s.pending ∧ (joinQueue op s).dev = s.dev ∧ (joinQueue op s).tb = s.tb ∧
      (joinQueue op s).cins = s.cins ∧ (joinQueue op s).groups = s.groups ∧ (joinQueue op s).zones = s.zones ∧
      (joinQueue op s).tallies = s.tallies ∧ (joinQueue op s).glyphs = s.glyphs ∧
      (joinQueue op s).bindings = s.bindings ∧ (joinQueue op s).slots = s.slots ∧
      (joinQueue op s).staging = s.staging ∧ (joinQueue op s).channels = s.channels ∧
      (joinQueue op s).rrNext = s.rrNext ∧ (joinQueue op s).flight = s.flight ∧ (joinQueue op s).ports = s.ports ∧
      (joinQueue op s).lists = s.lists ∧ (joinQueue op s).regions = s.regions ∧ (joinQueue op s).ringU = s.ringU ∧
      (joinQueue op s).ringB = s.ringB ∧ (joinQueue op s).passOver = s.passOver ∧
      (joinQueue op s).cpo = s.cpo := by
  simp [joinQueue]

@[simp] theorem carry_frame (op : Operation) (s : State) :
    (carry op s).pending = s.pending ∧ (carry op s).dev = s.dev ∧ (carry op s).tb = s.tb ∧
      (carry op s).cins = s.cins ∧ (carry op s).groups = s.groups ∧ (carry op s).zones = s.zones ∧
      (carry op s).tallies = s.tallies ∧ (carry op s).glyphs = s.glyphs ∧ (carry op s).bindings = s.bindings ∧
      (carry op s).slots = s.slots ∧ (carry op s).staging = s.staging ∧ (carry op s).rrNext = s.rrNext ∧
      (carry op s).flight = s.flight ∧ (carry op s).ports = s.ports ∧ (carry op s).regions = s.regions ∧
      (carry op s).ringU = s.ringU ∧ (carry op s).ringB = s.ringB ∧ (carry op s).passOver = s.passOver ∧
      (carry op s).cpo = s.cpo := by
  simp [carry]

@[simp] theorem stageBurst_frame (op : Operation) (data : List Byte) (s : State) :
    (stageBurst op data s).pending = s.pending ∧ (stageBurst op data s).dev = s.dev ∧
      (stageBurst op data s).tb = s.tb ∧ (stageBurst op data s).cins = s.cins ∧
      (stageBurst op data s).groups = s.groups ∧ (stageBurst op data s).zones = s.zones ∧
      (stageBurst op data s).tallies = s.tallies ∧ (stageBurst op data s).glyphs = s.glyphs ∧
      (stageBurst op data s).bindings = s.bindings ∧ (stageBurst op data s).slots = s.slots ∧
      (stageBurst op data s).channels = s.channels ∧ (stageBurst op data s).waitQueue = s.waitQueue ∧
      (stageBurst op data s).rrNext = s.rrNext ∧ (stageBurst op data s).flight = s.flight ∧
      (stageBurst op data s).ports = s.ports ∧ (stageBurst op data s).lists = s.lists ∧
      (stageBurst op data s).regions = s.regions ∧ (stageBurst op data s).ringU = s.ringU ∧
      (stageBurst op data s).ringB = s.ringB ∧ (stageBurst op data s).passOver = s.passOver ∧
      (stageBurst op data s).cpo = s.cpo := by
  simp [stageBurst]

@[simp] theorem withdraw_frame (o : Owner) (s : State) :
    (withdraw o s).pending = s.pending ∧ (withdraw o s).dev = s.dev ∧ (withdraw o s).tb = s.tb ∧
      (withdraw o s).cins = s.cins ∧ (withdraw o s).groups = s.groups ∧ (withdraw o s).zones = s.zones ∧
      (withdraw o s).tallies = s.tallies ∧ (withdraw o s).glyphs = s.glyphs ∧
      (withdraw o s).bindings = s.bindings ∧ (withdraw o s).staging = s.staging ∧
      (withdraw o s).rrNext = s.rrNext ∧ (withdraw o s).ports = s.ports ∧ (withdraw o s).regions = s.regions ∧
      (withdraw o s).passOver = s.passOver ∧ (withdraw o s).cpo = s.cpo := by
  unfold withdraw; try dsimp only
  repeat' split
  all_goals simp

@[simp] theorem abandonAll_frame (s : State) :
    (abandonAll s).pending = s.pending ∧ (abandonAll s).dev = s.dev ∧ (abandonAll s).tb = s.tb ∧
      (abandonAll s).cins = s.cins ∧ (abandonAll s).groups = s.groups ∧ (abandonAll s).zones = s.zones ∧
      (abandonAll s).tallies = s.tallies ∧ (abandonAll s).glyphs = s.glyphs ∧
      (abandonAll s).bindings = s.bindings ∧ (abandonAll s).staging = s.staging ∧
      (abandonAll s).rrNext = s.rrNext ∧ (abandonAll s).ports = s.ports ∧ (abandonAll s).lists = s.lists ∧
      (abandonAll s).regions = s.regions ∧ (abandonAll s).ringU = s.ringU ∧ (abandonAll s).ringB = s.ringB ∧
      (abandonAll s).passOver = s.passOver ∧ (abandonAll s).cpo = s.cpo := by
  simp [abandonAll]

end Sys2Proof.Machine
end

