-- ==== Sys2Proof/Laws/Commit.lean ====
section
/-! SUPPORT. What the boundary's work, the show accounting and the flushes leave as they are. -/

namespace Sys2Proof.Machine

@[simp] theorem leave_frame (p : PanelId) (e : Entry) (x : Status) (a b : Word) (s : State) :
    (leave p e x a b s).pending = s.pending ∧ (leave p e x a b s).dev = s.dev ∧ (leave p e x a b s).tb = s.tb ∧
      (leave p e x a b s).cins = s.cins ∧ (leave p e x a b s).groups = s.groups ∧
      (leave p e x a b s).zones = s.zones ∧ (leave p e x a b s).tallies = s.tallies ∧
      (leave p e x a b s).glyphs = s.glyphs ∧ (leave p e x a b s).bindings = s.bindings ∧
      (leave p e x a b s).slots = s.slots ∧ (leave p e x a b s).staging = s.staging ∧
      (leave p e x a b s).channels = s.channels ∧ (leave p e x a b s).waitQueue = s.waitQueue ∧
      (leave p e x a b s).rrNext = s.rrNext ∧ (leave p e x a b s).flight = s.flight ∧
      (leave p e x a b s).ports = s.ports ∧ (leave p e x a b s).regions = s.regions ∧
      (leave p e x a b s).passOver = s.passOver := by
  simp [leave]

@[simp] theorem renderBinding_frame (p : PanelId) (s : State) (x : TallyId × Fin 2) :
    (renderBinding p s x).pending = s.pending ∧ (renderBinding p s x).dev = s.dev ∧
      (renderBinding p s x).tb = s.tb ∧ (renderBinding p s x).cins = s.cins ∧
      (renderBinding p s x).groups = s.groups ∧ (renderBinding p s x).zones = s.zones ∧
      (renderBinding p s x).tallies = s.tallies ∧ (renderBinding p s x).glyphs = s.glyphs ∧
      (renderBinding p s x).slots = s.slots ∧ (renderBinding p s x).staging = s.staging ∧
      (renderBinding p s x).channels = s.channels ∧ (renderBinding p s x).waitQueue = s.waitQueue ∧
      (renderBinding p s x).rrNext = s.rrNext ∧ (renderBinding p s x).flight = s.flight ∧
      (renderBinding p s x).ports = s.ports ∧ (renderBinding p s x).lists = s.lists ∧
      (renderBinding p s x).ringU = s.ringU ∧ (renderBinding p s x).ringB = s.ringB ∧
      (renderBinding p s x).passOver = s.passOver ∧ (renderBinding p s x).cpo = s.cpo := by
  unfold renderBinding; try dsimp only
  repeat' split
  all_goals simp

@[simp] theorem renderDirty_frame (p : PanelId) (s : State) :
    (renderDirty p s).pending = s.pending ∧ (renderDirty p s).dev = s.dev ∧ (renderDirty p s).tb = s.tb ∧
      (renderDirty p s).cins = s.cins ∧ (renderDirty p s).groups = s.groups ∧ (renderDirty p s).zones = s.zones ∧
      (renderDirty p s).tallies = s.tallies ∧ (renderDirty p s).glyphs = s.glyphs ∧
      (renderDirty p s).slots = s.slots ∧ (renderDirty p s).staging = s.staging ∧
      (renderDirty p s).channels = s.channels ∧ (renderDirty p s).waitQueue = s.waitQueue ∧
      (renderDirty p s).rrNext = s.rrNext ∧ (renderDirty p s).flight = s.flight ∧
      (renderDirty p s).ports = s.ports ∧ (renderDirty p s).lists = s.lists ∧ (renderDirty p s).ringU = s.ringU ∧
      (renderDirty p s).ringB = s.ringB ∧ (renderDirty p s).passOver = s.passOver ∧
      (renderDirty p s).cpo = s.cpo := by
  unfold renderDirty
  refine ⟨?_, ?_, ?_, ?_, ?_, ?_, ?_, ?_, ?_, ?_, ?_, ?_, ?_, ?_, ?_, ?_, ?_, ?_, ?_, ?_⟩ <;> exact foldl_keeps (by intros; simp) _ _

@[simp] theorem commitEffect_frame (p : PanelId) (d : Nat) (e : Entry) (s : State) :
    (commitEffect p d e s).pending = s.pending ∧ (commitEffect p d e s).dev = s.dev ∧
      (commitEffect p d e s).tb = s.tb ∧ (commitEffect p d e s).cins = s.cins ∧
      (commitEffect p d e s).groups = s.groups ∧ (commitEffect p d e s).zones = s.zones ∧
      (commitEffect p d e s).tallies = s.tallies ∧ (commitEffect p d e s).glyphs = s.glyphs ∧
      (commitEffect p d e s).bindings = s.bindings ∧ (commitEffect p d e s).channels = s.channels ∧
      (commitEffect p d e s).rrNext = s.rrNext ∧ (commitEffect p d e s).flight = s.flight ∧
      (commitEffect p d e s).ports = s.ports ∧ (commitEffect p d e s).lists = s.lists ∧
      (commitEffect p d e s).passOver = s.passOver ∧ (commitEffect p d e s).cpo = s.cpo := by
  unfold commitEffect; try dsimp only
  repeat' split
  all_goals simp

@[simp] theorem walkEntry_frame (p : PanelId) (c : PanelConfig) (n : Word) (w : Walk) (e : Entry) :
    (walkEntry p c n w e).state.pending = w.state.pending ∧
      (walkEntry p c n w e).state.dev = w.state.dev ∧
      (walkEntry p c n w e).state.tb = w.state.tb ∧
      (walkEntry p c n w e).state.cins = w.state.cins ∧
      (walkEntry p c n w e).state.groups = w.state.groups ∧
      (walkEntry p c n w e).state.zones = w.state.zones ∧
      (walkEntry p c n w e).state.tallies = w.state.tallies ∧
      (walkEntry p c n w e).state.glyphs = w.state.glyphs ∧
      (walkEntry p c n w e).state.bindings = w.state.bindings ∧
      (walkEntry p c n w e).state.channels = w.state.channels ∧
      (walkEntry p c n w e).state.rrNext = w.state.rrNext ∧
      (walkEntry p c n w e).state.flight = w.state.flight ∧
      (walkEntry p c n w e).state.ports = w.state.ports ∧
      (walkEntry p c n w e).state.lists = w.state.lists ∧
      (walkEntry p c n w e).state.passOver = w.state.passOver ∧
      (walkEntry p c n w e).state.cpo = w.state.cpo := by
  unfold walkEntry
  repeat' split
  all_goals simp

@[simp] theorem walkFrom_frame (p : PanelId) (c : PanelConfig) (n : Word) (w : Walk) (l : List Entry) :
    (walkFrom p c n w l).state.pending = w.state.pending ∧
      (walkFrom p c n w l).state.dev = w.state.dev ∧
      (walkFrom p c n w l).state.tb = w.state.tb ∧
      (walkFrom p c n w l).state.cins = w.state.cins ∧
      (walkFrom p c n w l).state.groups = w.state.groups ∧
      (walkFrom p c n w l).state.zones = w.state.zones ∧
      (walkFrom p c n w l).state.tallies = w.state.tallies ∧
      (walkFrom p c n w l).state.glyphs = w.state.glyphs ∧
      (walkFrom p c n w l).state.bindings = w.state.bindings ∧
      (walkFrom p c n w l).state.channels = w.state.channels ∧
      (walkFrom p c n w l).state.rrNext = w.state.rrNext ∧
      (walkFrom p c n w l).state.flight = w.state.flight ∧
      (walkFrom p c n w l).state.ports = w.state.ports ∧
      (walkFrom p c n w l).state.lists = w.state.lists ∧
      (walkFrom p c n w l).state.passOver = w.state.passOver ∧
      (walkFrom p c n w l).state.cpo = w.state.cpo := by
  unfold walkFrom
  refine ⟨?_, ?_, ?_, ?_, ?_, ?_, ?_, ?_, ?_, ?_, ?_, ?_, ?_, ?_, ?_, ?_⟩
  · exact foldl_keeps (g := fun w : Walk => w.state.pending) (by intros; simp) _ _
  · exact foldl_keeps (g := fun w : Walk => w.state.dev) (by intros; simp) _ _
  · exact foldl_keeps (g := fun w : Walk => w.state.tb) (by intros; simp) _ _
  · exact foldl_keeps (g := fun w : Walk => w.state.cins) (by intros; simp) _ _
  · exact foldl_keeps (g := fun w : Walk => w.state.groups) (by intros; simp) _ _
  · exact foldl_keeps (g := fun w : Walk => w.state.zones) (by intros; simp) _ _
  · exact foldl_keeps (g := fun w : Walk => w.state.tallies) (by intros; simp) _ _
  · exact foldl_keeps (g := fun w : Walk => w.state.glyphs) (by intros; simp) _ _
  · exact foldl_keeps (g := fun w : Walk => w.state.bindings) (by intros; simp) _ _
  · exact foldl_keeps (g := fun w : Walk => w.state.channels) (by intros; simp) _ _
  · exact foldl_keeps (g := fun w : Walk => w.state.rrNext) (by intros; simp) _ _
  · exact foldl_keeps (g := fun w : Walk => w.state.flight) (by intros; simp) _ _
  · exact foldl_keeps (g := fun w : Walk => w.state.ports) (by intros; simp) _ _
  · exact foldl_keeps (g := fun w : Walk => w.state.lists) (by intros; simp) _ _
  · exact foldl_keeps (g := fun w : Walk => w.state.passOver) (by intros; simp) _ _
  · exact foldl_keeps (g := fun w : Walk => w.state.cpo) (by intros; simp) _ _

@[simp] theorem commitWalk_frame (p : PanelId) (c : PanelConfig) (n : Word) (s : State) :
    (commitWalk p c n s).pending = s.pending ∧ (commitWalk p c n s).dev = s.dev ∧ (commitWalk p c n s).tb = s.tb ∧
      (commitWalk p c n s).cins = s.cins ∧ (commitWalk p c n s).groups = s.groups ∧
      (commitWalk p c n s).zones = s.zones ∧ (commitWalk p c n s).tallies = s.tallies ∧
      (commitWalk p c n s).glyphs = s.glyphs ∧ (commitWalk p c n s).bindings = s.bindings ∧
      (commitWalk p c n s).rrNext = s.rrNext ∧ (commitWalk p c n s).flight = s.flight ∧
      (commitWalk p c n s).ports = s.ports ∧ (commitWalk p c n s).passOver = s.passOver ∧
      (commitWalk p c n s).cpo = s.cpo := by
  simp [commitWalk]

@[simp] theorem showEntry_frame (p : PanelId) (i j : Nat) (n : Word) (s : State) (e : Entry) :
    (showEntry p i j n s e).pending = s.pending ∧ (showEntry p i j n s e).dev = s.dev ∧
      (showEntry p i j n s e).tb = s.tb ∧ (showEntry p i j n s e).cins = s.cins ∧
      (showEntry p i j n s e).groups = s.groups ∧ (showEntry p i j n s e).zones = s.zones ∧
      (showEntry p i j n s e).tallies = s.tallies ∧ (showEntry p i j n s e).glyphs = s.glyphs ∧
      (showEntry p i j n s e).bindings = s.bindings ∧ (showEntry p i j n s e).slots = s.slots ∧
      (showEntry p i j n s e).staging = s.staging ∧ (showEntry p i j n s e).channels = s.channels ∧
      (showEntry p i j n s e).waitQueue = s.waitQueue ∧ (showEntry p i j n s e).rrNext = s.rrNext ∧
      (showEntry p i j n s e).flight = s.flight ∧ (showEntry p i j n s e).ports = s.ports ∧
      (showEntry p i j n s e).regions = s.regions ∧ (showEntry p i j n s e).passOver = s.passOver := by
  unfold showEntry; try dsimp only
  repeat' split
  all_goals simp

@[simp] theorem showEntries_frame (p : PanelId) (i j : Nat) (n : Word) (s : State) :
    (showEntries p i j n s).pending = s.pending ∧ (showEntries p i j n s).dev = s.dev ∧
      (showEntries p i j n s).tb = s.tb ∧ (showEntries p i j n s).cins = s.cins ∧
      (showEntries p i j n s).groups = s.groups ∧ (showEntries p i j n s).zones = s.zones ∧
      (showEntries p i j n s).tallies = s.tallies ∧ (showEntries p i j n s).glyphs = s.glyphs ∧
      (showEntries p i j n s).bindings = s.bindings ∧ (showEntries p i j n s).slots = s.slots ∧
      (showEntries p i j n s).staging = s.staging ∧ (showEntries p i j n s).channels = s.channels ∧
      (showEntries p i j n s).waitQueue = s.waitQueue ∧ (showEntries p i j n s).rrNext = s.rrNext ∧
      (showEntries p i j n s).flight = s.flight ∧ (showEntries p i j n s).ports = s.ports ∧
      (showEntries p i j n s).regions = s.regions ∧ (showEntries p i j n s).passOver = s.passOver := by
  unfold showEntries
  refine ⟨?_, ?_, ?_, ?_, ?_, ?_, ?_, ?_, ?_, ?_, ?_, ?_, ?_, ?_, ?_, ?_, ?_, ?_⟩ <;> exact foldl_keeps (by intros; simp) _ _

@[simp] theorem flushEntry_frame (p : PanelId) (x : Status) (n : Word) (s : State) (e : Entry) :
    (flushEntry p x n s e).pending = s.pending ∧ (flushEntry p x n s e).dev = s.dev ∧
      (flushEntry p x n s e).tb = s.tb ∧ (flushEntry p x n s e).cins = s.cins ∧
      (flushEntry p x n s e).groups = s.groups ∧ (flushEntry p x n s e).zones = s.zones ∧
      (flushEntry p x n s e).tallies = s.tallies ∧ (flushEntry p x n s e).glyphs = s.glyphs ∧
      (flushEntry p x n s e).bindings = s.bindings ∧ (flushEntry p x n s e).staging = s.staging ∧
      (flushEntry p x n s e).rrNext = s.rrNext ∧ (flushEntry p x n s e).ports = s.ports ∧
      (flushEntry p x n s e).regions = s.regions ∧ (flushEntry p x n s e).passOver = s.passOver := by
  unfold flushEntry; try dsimp only
  repeat' split
  all_goals simp

@[simp] theorem flushList_frame (p : PanelId) (x : Status) (n : Word) (s : State) :
    (flushList p x n s).pending = s.pending ∧ (flushList p x n s).dev = s.dev ∧ (flushList p x n s).tb = s.tb ∧
      (flushList p x n s).cins = s.cins ∧ (flushList p x n s).groups = s.groups ∧
      (flushList p x n s).zones = s.zones ∧ (flushList p x n s).tallies = s.tallies ∧
      (flushList p x n s).glyphs = s.glyphs ∧ (flushList p x n s).bindings = s.bindings ∧
      (flushList p x n s).staging = s.staging ∧ (flushList p x n s).rrNext = s.rrNext ∧
      (flushList p x n s).ports = s.ports ∧ (flushList p x n s).regions = s.regions ∧
      (flushList p x n s).passOver = s.passOver := by
  unfold flushList
  refine ⟨?_, ?_, ?_, ?_, ?_, ?_, ?_, ?_, ?_, ?_, ?_, ?_, ?_, ?_⟩ <;> exact foldl_keeps (by intros; simp) _ _

end Sys2Proof.Machine
end

