-- ==== Sys2Proof/Laws/Scan.lean ====
section
/-! SUPPORT. What the panel ports' shared operations leave as they are. -/

namespace Sys2Proof.Machine

@[simp] theorem boundaryWork_frame (p : PanelId) (c : PanelConfig) (n : Word) (s : State) :
    (boundaryWork p c n s).pending = s.pending ∧ (boundaryWork p c n s).dev = s.dev ∧
      (boundaryWork p c n s).tb = s.tb ∧ (boundaryWork p c n s).cins = s.cins ∧
      (boundaryWork p c n s).groups = s.groups ∧ (boundaryWork p c n s).zones = s.zones ∧
      (boundaryWork p c n s).tallies = s.tallies ∧ (boundaryWork p c n s).glyphs = s.glyphs ∧
      (boundaryWork p c n s).rrNext = s.rrNext ∧ (boundaryWork p c n s).flight = s.flight ∧
      (boundaryWork p c n s).ports = s.ports ∧ (boundaryWork p c n s).passOver = s.passOver ∧
      (boundaryWork p c n s).cpo = s.cpo := by
  simp [boundaryWork]

@[simp] theorem boundary_frame (p : PanelId) (s : State) :
    (boundary p s).pending = s.pending ∧ (boundary p s).dev = s.dev ∧ (boundary p s).tb = s.tb ∧
      (boundary p s).cins = s.cins ∧ (boundary p s).groups = s.groups ∧ (boundary p s).zones = s.zones ∧
      (boundary p s).tallies = s.tallies ∧ (boundary p s).glyphs = s.glyphs ∧ (boundary p s).rrNext = s.rrNext ∧
      (boundary p s).flight = s.flight ∧ (boundary p s).passOver = s.passOver ∧ (boundary p s).cpo = s.cpo := by
  unfold boundary; try dsimp only
  repeat' split
  all_goals simp

@[simp] theorem enterOff_frame (p : PanelId) (s : State) :
    (enterOff p s).pending = s.pending ∧ (enterOff p s).dev = s.dev ∧ (enterOff p s).tb = s.tb ∧
      (enterOff p s).cins = s.cins ∧ (enterOff p s).groups = s.groups ∧ (enterOff p s).zones = s.zones ∧
      (enterOff p s).tallies = s.tallies ∧ (enterOff p s).glyphs = s.glyphs ∧
      (enterOff p s).bindings = s.bindings ∧ (enterOff p s).slots = s.slots ∧ (enterOff p s).staging = s.staging ∧
      (enterOff p s).channels = s.channels ∧ (enterOff p s).waitQueue = s.waitQueue ∧
      (enterOff p s).rrNext = s.rrNext ∧ (enterOff p s).flight = s.flight ∧ (enterOff p s).lists = s.lists ∧
      (enterOff p s).regions = s.regions ∧ (enterOff p s).passOver = s.passOver := by
  simp [enterOff]

@[simp] theorem drainCheck_frame (p : PanelId) (s : State) :
    (drainCheck p s).pending = s.pending ∧ (drainCheck p s).dev = s.dev ∧ (drainCheck p s).tb = s.tb ∧
      (drainCheck p s).cins = s.cins ∧ (drainCheck p s).groups = s.groups ∧ (drainCheck p s).zones = s.zones ∧
      (drainCheck p s).tallies = s.tallies ∧ (drainCheck p s).glyphs = s.glyphs ∧
      (drainCheck p s).rrNext = s.rrNext ∧ (drainCheck p s).flight = s.flight ∧
      (drainCheck p s).passOver = s.passOver := by
  unfold drainCheck; try dsimp only
  repeat' split
  all_goals simp

@[simp] theorem takeFault_frame (p : PanelId) (s : State) :
    (takeFault p s).pending = s.pending ∧ (takeFault p s).dev = s.dev ∧ (takeFault p s).tb = s.tb ∧
      (takeFault p s).cins = s.cins ∧ (takeFault p s).groups = s.groups ∧ (takeFault p s).zones = s.zones ∧
      (takeFault p s).tallies = s.tallies ∧ (takeFault p s).glyphs = s.glyphs ∧
      (takeFault p s).bindings = s.bindings ∧ (takeFault p s).staging = s.staging ∧
      (takeFault p s).rrNext = s.rrNext ∧ (takeFault p s).regions = s.regions ∧
      (takeFault p s).passOver = s.passOver := by
  unfold takeFault; try dsimp only
  repeat' split
  all_goals simp

@[simp] theorem enterStarting_frame (p : PanelId) (s : State) :
    (enterStarting p s).pending = s.pending ∧ (enterStarting p s).dev = s.dev ∧ (enterStarting p s).tb = s.tb ∧
      (enterStarting p s).cins = s.cins ∧ (enterStarting p s).groups = s.groups ∧
      (enterStarting p s).zones = s.zones ∧ (enterStarting p s).tallies = s.tallies ∧
      (enterStarting p s).glyphs = s.glyphs ∧ (enterStarting p s).rrNext = s.rrNext ∧
      (enterStarting p s).passOver = s.passOver := by
  unfold enterStarting; try dsimp only
  repeat' split
  all_goals simp

@[simp] theorem enterDraining_frame (p : PanelId) (s : State) :
    (enterDraining p s).pending = s.pending ∧ (enterDraining p s).dev = s.dev ∧ (enterDraining p s).tb = s.tb ∧
      (enterDraining p s).cins = s.cins ∧ (enterDraining p s).groups = s.groups ∧
      (enterDraining p s).zones = s.zones ∧ (enterDraining p s).tallies = s.tallies ∧
      (enterDraining p s).glyphs = s.glyphs ∧ (enterDraining p s).rrNext = s.rrNext ∧
      (enterDraining p s).passOver = s.passOver := by
  unfold enterDraining; try dsimp only
  repeat' split
  all_goals simp

@[simp] theorem drainFromFault_frame (p : PanelId) (s : State) :
    (drainFromFault p s).pending = s.pending ∧ (drainFromFault p s).dev = s.dev ∧ (drainFromFault p s).tb = s.tb ∧
      (drainFromFault p s).cins = s.cins ∧ (drainFromFault p s).groups = s.groups ∧
      (drainFromFault p s).zones = s.zones ∧ (drainFromFault p s).tallies = s.tallies ∧
      (drainFromFault p s).glyphs = s.glyphs ∧ (drainFromFault p s).rrNext = s.rrNext ∧
      (drainFromFault p s).flight = s.flight ∧ (drainFromFault p s).passOver = s.passOver := by
  simp [drainFromFault]

@[simp] theorem softResetPort_frame (s : State) (p : PanelId) :
    (softResetPort s p).pending = s.pending ∧ (softResetPort s p).dev = s.dev ∧ (softResetPort s p).tb = s.tb ∧
      (softResetPort s p).cins = s.cins ∧ (softResetPort s p).groups = s.groups ∧
      (softResetPort s p).zones = s.zones ∧ (softResetPort s p).tallies = s.tallies ∧
      (softResetPort s p).glyphs = s.glyphs ∧ (softResetPort s p).rrNext = s.rrNext ∧
      (softResetPort s p).flight = s.flight ∧ (softResetPort s p).passOver = s.passOver := by
  unfold softResetPort; try dsimp only
  repeat' split
  all_goals simp

end Sys2Proof.Machine
end

