-- ==== Sys2Proof/Laws/Tally.lean ====
section
/-! SUPPORT. What the Tally Unit's and the timebase's shared operations leave as they are. -/

namespace Sys2Proof.Machine

@[simp] theorem markDirty_frame (t : TallyId) (s : State) :
    (markDirty t s).pending = s.pending ∧ (markDirty t s).dev = s.dev ∧ (markDirty t s).tb = s.tb ∧
      (markDirty t s).cins = s.cins ∧ (markDirty t s).groups = s.groups ∧ (markDirty t s).zones = s.zones ∧
      (markDirty t s).tallies = s.tallies ∧ (markDirty t s).glyphs = s.glyphs ∧ (markDirty t s).slots = s.slots ∧
      (markDirty t s).staging = s.staging ∧ (markDirty t s).channels = s.channels ∧
      (markDirty t s).waitQueue = s.waitQueue ∧ (markDirty t s).rrNext = s.rrNext ∧
      (markDirty t s).flight = s.flight ∧ (markDirty t s).ports = s.ports ∧ (markDirty t s).lists = s.lists ∧
      (markDirty t s).regions = s.regions ∧ (markDirty t s).ringU = s.ringU ∧ (markDirty t s).ringB = s.ringB ∧
      (markDirty t s).passOver = s.passOver ∧ (markDirty t s).cpo = s.cpo := by
  unfold markDirty
  refine ⟨?_, ?_, ?_, ?_, ?_, ?_, ?_, ?_, ?_, ?_, ?_, ?_, ?_, ?_, ?_, ?_, ?_, ?_, ?_, ?_, ?_⟩ <;> exact foldl_keeps (by intros; simp) _ _

@[simp] theorem takeStep_frame (t : TallyId) (s : State) :
    (takeStep t s).1.pending = s.pending ∧ (takeStep t s).1.dev = s.dev ∧ (takeStep t s).1.tb = s.tb ∧
      (takeStep t s).1.cins = s.cins ∧ (takeStep t s).1.groups = s.groups ∧ (takeStep t s).1.zones = s.zones ∧
      (takeStep t s).1.glyphs = s.glyphs ∧ (takeStep t s).1.slots = s.slots ∧
      (takeStep t s).1.staging = s.staging ∧ (takeStep t s).1.channels = s.channels ∧
      (takeStep t s).1.waitQueue = s.waitQueue ∧ (takeStep t s).1.rrNext = s.rrNext ∧
      (takeStep t s).1.flight = s.flight ∧ (takeStep t s).1.ports = s.ports ∧ (takeStep t s).1.lists = s.lists ∧
      (takeStep t s).1.regions = s.regions ∧ (takeStep t s).1.ringU = s.ringU ∧ (takeStep t s).1.ringB = s.ringB ∧
      (takeStep t s).1.passOver = s.passOver ∧ (takeStep t s).1.cpo = s.cpo := by
  unfold takeStep; try dsimp only
  repeat' split
  all_goals simp

/-- The chain of carry-outs keeps what each of its steps keeps. -/
theorem chain_keeps {γ : Type} {g : State → γ} (h : ∀ t s, g (takeStep t s).1 = g s) (l : List TallyId)
    (a : State × List TallyId) : g (l.foldl chainLink a).1 = g a.1 := by
  refine foldl_keeps (g := fun a : State × List TallyId => g a.1) (fun a t => ?_) l a
  unfold chainLink
  split
  · exact h t a.1
  · rfl

@[simp] theorem stepWithChain_frame (t : TallyId) (s : State) :
    (stepWithChain t s).pending = s.pending ∧ (stepWithChain t s).dev = s.dev ∧ (stepWithChain t s).tb = s.tb ∧
      (stepWithChain t s).cins = s.cins ∧ (stepWithChain t s).groups = s.groups ∧
      (stepWithChain t s).zones = s.zones ∧ (stepWithChain t s).glyphs = s.glyphs ∧
      (stepWithChain t s).slots = s.slots ∧ (stepWithChain t s).staging = s.staging ∧
      (stepWithChain t s).channels = s.channels ∧ (stepWithChain t s).waitQueue = s.waitQueue ∧
      (stepWithChain t s).rrNext = s.rrNext ∧ (stepWithChain t s).flight = s.flight ∧
      (stepWithChain t s).ports = s.ports ∧ (stepWithChain t s).lists = s.lists ∧
      (stepWithChain t s).regions = s.regions ∧ (stepWithChain t s).ringU = s.ringU ∧
      (stepWithChain t s).ringB = s.ringB ∧ (stepWithChain t s).passOver = s.passOver ∧
      (stepWithChain t s).cpo = s.cpo := by
  unfold stepWithChain; dsimp only
  split
  · refine ⟨?_, ?_, ?_, ?_, ?_, ?_, ?_, ?_, ?_, ?_, ?_, ?_, ?_, ?_, ?_, ?_, ?_, ?_, ?_, ?_⟩ <;> exact (chain_keeps (by intros; simp) _ _).trans (by simp)
  · simp

@[simp] theorem countEdge_frame (n : LineId) (s : State) :
    (countEdge n s).pending = s.pending ∧ (countEdge n s).dev = s.dev ∧ (countEdge n s).tb = s.tb ∧
      (countEdge n s).cins = s.cins ∧ (countEdge n s).groups = s.groups ∧ (countEdge n s).zones = s.zones ∧
      (countEdge n s).glyphs = s.glyphs ∧ (countEdge n s).slots = s.slots ∧ (countEdge n s).staging = s.staging ∧
      (countEdge n s).channels = s.channels ∧ (countEdge n s).waitQueue = s.waitQueue ∧
      (countEdge n s).rrNext = s.rrNext ∧ (countEdge n s).flight = s.flight ∧ (countEdge n s).ports = s.ports ∧
      (countEdge n s).lists = s.lists ∧ (countEdge n s).regions = s.regions ∧ (countEdge n s).ringU = s.ringU ∧
      (countEdge n s).ringB = s.ringB ∧ (countEdge n s).passOver = s.passOver ∧ (countEdge n s).cpo = s.cpo := by
  unfold countEdge
  refine ⟨?_, ?_, ?_, ?_, ?_, ?_, ?_, ?_, ?_, ?_, ?_, ?_, ?_, ?_, ?_, ?_, ?_, ?_, ?_, ?_⟩ <;> exact foldl_keeps (by intros; split <;> simp) _ _

@[simp] theorem tallyMs_frame (s : State) (t : TallyId) :
    (tallyMs s t).pending = s.pending ∧ (tallyMs s t).dev = s.dev ∧ (tallyMs s t).tb = s.tb ∧
      (tallyMs s t).cins = s.cins ∧ (tallyMs s t).groups = s.groups ∧ (tallyMs s t).zones = s.zones ∧
      (tallyMs s t).glyphs = s.glyphs ∧ (tallyMs s t).slots = s.slots ∧ (tallyMs s t).staging = s.staging ∧
      (tallyMs s t).channels = s.channels ∧ (tallyMs s t).waitQueue = s.waitQueue ∧
      (tallyMs s t).rrNext = s.rrNext ∧ (tallyMs s t).flight = s.flight ∧ (tallyMs s t).ports = s.ports ∧
      (tallyMs s t).lists = s.lists ∧ (tallyMs s t).regions = s.regions ∧ (tallyMs s t).ringU = s.ringU ∧
      (tallyMs s t).ringB = s.ringB ∧ (tallyMs s t).passOver = s.passOver ∧ (tallyMs s t).cpo = s.cpo := by
  unfold tallyMs; try dsimp only
  repeat' split
  all_goals simp

@[simp] theorem addSteps_frame (t : TallyId) (n : Nat) (s : State) :
    (addSteps t n s).1.pending = s.pending ∧ (addSteps t n s).1.dev = s.dev ∧ (addSteps t n s).1.tb = s.tb ∧
      (addSteps t n s).1.cins = s.cins ∧ (addSteps t n s).1.groups = s.groups ∧
      (addSteps t n s).1.zones = s.zones ∧ (addSteps t n s).1.glyphs = s.glyphs ∧
      (addSteps t n s).1.slots = s.slots ∧ (addSteps t n s).1.staging = s.staging ∧
      (addSteps t n s).1.channels = s.channels ∧ (addSteps t n s).1.waitQueue = s.waitQueue ∧
      (addSteps t n s).1.rrNext = s.rrNext ∧ (addSteps t n s).1.flight = s.flight ∧
      (addSteps t n s).1.ports = s.ports ∧ (addSteps t n s).1.lists = s.lists ∧
      (addSteps t n s).1.regions = s.regions ∧ (addSteps t n s).1.ringU = s.ringU ∧
      (addSteps t n s).1.ringB = s.ringB ∧ (addSteps t n s).1.passOver = s.passOver ∧
      (addSteps t n s).1.cpo = s.cpo := by
  induction n generalizing s with
  | zero => simp [addSteps]
  | succ n ih => unfold addSteps; dsimp only; split <;> simp [ih]

@[simp] theorem acceptLevel_frame (n : LineId) (s : State) :
    (acceptLevel n s).pending = s.pending ∧ (acceptLevel n s).dev = s.dev ∧ (acceptLevel n s).tb = s.tb ∧
      (acceptLevel n s).groups = s.groups ∧ (acceptLevel n s).zones = s.zones ∧
      (acceptLevel n s).glyphs = s.glyphs ∧ (acceptLevel n s).slots = s.slots ∧
      (acceptLevel n s).staging = s.staging ∧ (acceptLevel n s).channels = s.channels ∧
      (acceptLevel n s).waitQueue = s.waitQueue ∧ (acceptLevel n s).rrNext = s.rrNext ∧
      (acceptLevel n s).flight = s.flight ∧ (acceptLevel n s).ports = s.ports ∧ (acceptLevel n s).lists = s.lists ∧
      (acceptLevel n s).regions = s.regions ∧ (acceptLevel n s).ringU = s.ringU ∧
      (acceptLevel n s).ringB = s.ringB ∧ (acceptLevel n s).passOver = s.passOver ∧
      (acceptLevel n s).cpo = s.cpo := by
  unfold acceptLevel; try dsimp only
  repeat' split
  all_goals simp

@[simp] theorem lineMs_frame (s : State) (n : LineId) :
    (lineMs s n).pending = s.pending ∧ (lineMs s n).dev = s.dev ∧ (lineMs s n).tb = s.tb ∧
      (lineMs s n).groups = s.groups ∧ (lineMs s n).zones = s.zones ∧ (lineMs s n).glyphs = s.glyphs ∧
      (lineMs s n).slots = s.slots ∧ (lineMs s n).staging = s.staging ∧ (lineMs s n).channels = s.channels ∧
      (lineMs s n).waitQueue = s.waitQueue ∧ (lineMs s n).rrNext = s.rrNext ∧ (lineMs s n).flight = s.flight ∧
      (lineMs s n).ports = s.ports ∧ (lineMs s n).lists = s.lists ∧ (lineMs s n).regions = s.regions ∧
      (lineMs s n).ringU = s.ringU ∧ (lineMs s n).ringB = s.ringB ∧ (lineMs s n).passOver = s.passOver ∧
      (lineMs s n).cpo = s.cpo := by
  unfold lineMs; try dsimp only
  repeat' split
  all_goals simp

@[simp] theorem rawChange_frame (n : LineId) (v : Bool) (s : State) :
    (rawChange n v s).pending = s.pending ∧ (rawChange n v s).dev = s.dev ∧ (rawChange n v s).tb = s.tb ∧
      (rawChange n v s).groups = s.groups ∧ (rawChange n v s).zones = s.zones ∧
      (rawChange n v s).glyphs = s.glyphs ∧ (rawChange n v s).slots = s.slots ∧
      (rawChange n v s).staging = s.staging ∧ (rawChange n v s).channels = s.channels ∧
      (rawChange n v s).waitQueue = s.waitQueue ∧ (rawChange n v s).rrNext = s.rrNext ∧
      (rawChange n v s).flight = s.flight ∧ (rawChange n v s).ports = s.ports ∧ (rawChange n v s).lists = s.lists ∧
      (rawChange n v s).regions = s.regions ∧ (rawChange n v s).ringU = s.ringU ∧
      (rawChange n v s).ringB = s.ringB ∧ (rawChange n v s).passOver = s.passOver ∧
      (rawChange n v s).cpo = s.cpo := by
  unfold rawChange; try dsimp only
  repeat' split
  all_goals simp

@[simp] theorem usConsumers_frame (s : State) :
    (usConsumers s).pending = s.pending ∧ (usConsumers s).dev = s.dev ∧ (usConsumers s).tb = s.tb ∧
      (usConsumers s).cins = s.cins ∧ (usConsumers s).groups = s.groups ∧ (usConsumers s).zones = s.zones ∧
      (usConsumers s).tallies = s.tallies ∧ (usConsumers s).glyphs = s.glyphs ∧
      (usConsumers s).bindings = s.bindings ∧ (usConsumers s).slots = s.slots ∧
      (usConsumers s).staging = s.staging ∧ (usConsumers s).channels = s.channels ∧
      (usConsumers s).waitQueue = s.waitQueue ∧ (usConsumers s).rrNext = s.rrNext ∧
      (usConsumers s).lists = s.lists ∧ (usConsumers s).regions = s.regions ∧ (usConsumers s).ringU = s.ringU ∧
      (usConsumers s).ringB = s.ringB ∧ (usConsumers s).passOver = s.passOver ∧ (usConsumers s).cpo = s.cpo := by
  simp [usConsumers]

@[simp] theorem msConsumers_frame (s : State) :
    (msConsumers s).pending = s.pending ∧ (msConsumers s).dev = s.dev ∧ (msConsumers s).tb = s.tb ∧
      (msConsumers s).groups = s.groups ∧ (msConsumers s).zones = s.zones ∧ (msConsumers s).glyphs = s.glyphs ∧
      (msConsumers s).slots = s.slots ∧ (msConsumers s).staging = s.staging ∧
      (msConsumers s).channels = s.channels ∧ (msConsumers s).waitQueue = s.waitQueue ∧
      (msConsumers s).rrNext = s.rrNext ∧ (msConsumers s).flight = s.flight ∧ (msConsumers s).ports = s.ports ∧
      (msConsumers s).lists = s.lists ∧ (msConsumers s).regions = s.regions ∧ (msConsumers s).ringU = s.ringU ∧
      (msConsumers s).ringB = s.ringB ∧ (msConsumers s).passOver = s.passOver ∧ (msConsumers s).cpo = s.cpo := by
  unfold msConsumers
  refine ⟨?_, ?_, ?_, ?_, ?_, ?_, ?_, ?_, ?_, ?_, ?_, ?_, ?_, ?_, ?_, ?_, ?_, ?_, ?_⟩ <;>
    exact (foldl_keeps (by intros; simp) _ _).trans (foldl_keeps (by intros; simp) _ _)

@[simp] theorem tick_frame (s : State) :
    (tick s).pending = s.pending ∧ (tick s).dev = s.dev ∧ (tick s).groups = s.groups ∧ (tick s).zones = s.zones ∧
      (tick s).glyphs = s.glyphs ∧ (tick s).slots = s.slots ∧ (tick s).staging = s.staging ∧
      (tick s).channels = s.channels ∧ (tick s).waitQueue = s.waitQueue ∧ (tick s).rrNext = s.rrNext ∧
      (tick s).lists = s.lists ∧ (tick s).regions = s.regions ∧ (tick s).ringU = s.ringU ∧
      (tick s).ringB = s.ringB ∧ (tick s).passOver = s.passOver ∧ (tick s).cpo = s.cpo := by
  unfold tick; try dsimp only
  repeat' split
  all_goals simp

end Sys2Proof.Machine
end

