-- ==== Sys2Proof/Laws/Rings.lean ====
section
/-! SUPPORT. What the Record Taker's shared operations do and leave as they are. -/

namespace Sys2Proof.Machine

@[simp] theorem faultRing_frame (r : RingId) (c : RingCause) (s : State) :
    (faultRing r c s).pending = s.pending ∧ (faultRing r c s).dev = s.dev ∧ (faultRing r c s).tb = s.tb ∧
      (faultRing r c s).cins = s.cins ∧ (faultRing r c s).groups = s.groups ∧ (faultRing r c s).zones = s.zones ∧
      (faultRing r c s).tallies = s.tallies ∧ (faultRing r c s).glyphs = s.glyphs ∧
      (faultRing r c s).bindings = s.bindings ∧ (faultRing r c s).slots = s.slots ∧
      (faultRing r c s).staging = s.staging ∧ (faultRing r c s).channels = s.channels ∧
      (faultRing r c s).waitQueue = s.waitQueue ∧ (faultRing r c s).rrNext = s.rrNext ∧
      (faultRing r c s).flight = s.flight ∧ (faultRing r c s).ports = s.ports ∧ (faultRing r c s).lists = s.lists ∧
      (faultRing r c s).regions = s.regions ∧ (faultRing r c s).passOver = s.passOver := by
  simp [faultRing]

@[simp] theorem takeRecord_frame (r : RingId) (s : State) :
    (takeRecord r s).pending = s.pending ∧ (takeRecord r s).dev = s.dev ∧ (takeRecord r s).tb = s.tb ∧
      (takeRecord r s).cins = s.cins ∧ (takeRecord r s).groups = s.groups ∧ (takeRecord r s).zones = s.zones ∧
      (takeRecord r s).tallies = s.tallies ∧ (takeRecord r s).glyphs = s.glyphs ∧
      (takeRecord r s).bindings = s.bindings ∧ (takeRecord r s).slots = s.slots ∧
      (takeRecord r s).staging = s.staging ∧ (takeRecord r s).channels = s.channels ∧
      (takeRecord r s).waitQueue = s.waitQueue ∧ (takeRecord r s).rrNext = s.rrNext ∧
      (takeRecord r s).flight = s.flight ∧ (takeRecord r s).ports = s.ports ∧ (takeRecord r s).lists = s.lists ∧
      (takeRecord r s).regions = s.regions ∧ (takeRecord r s).passOver = s.passOver := by
  simp [takeRecord]

@[simp] theorem stallRing_frame (r : RingId) (n : Nat) (s : State) :
    (stallRing r n s).pending = s.pending ∧ (stallRing r n s).dev = s.dev ∧ (stallRing r n s).tb = s.tb ∧
      (stallRing r n s).cins = s.cins ∧ (stallRing r n s).groups = s.groups ∧ (stallRing r n s).zones = s.zones ∧
      (stallRing r n s).tallies = s.tallies ∧ (stallRing r n s).glyphs = s.glyphs ∧
      (stallRing r n s).bindings = s.bindings ∧ (stallRing r n s).slots = s.slots ∧
      (stallRing r n s).staging = s.staging ∧ (stallRing r n s).channels = s.channels ∧
      (stallRing r n s).waitQueue = s.waitQueue ∧ (stallRing r n s).rrNext = s.rrNext ∧
      (stallRing r n s).flight = s.flight ∧ (stallRing r n s).ports = s.ports ∧ (stallRing r n s).lists = s.lists ∧
      (stallRing r n s).regions = s.regions ∧ (stallRing r n s).passOver = s.passOver ∧
      (stallRing r n s).cpo = s.cpo := by
  simp [stallRing]

/-! ## The owners' rulings -/

/-- The state that a ruling leaves before it is settled: a withdrawal leaves the state as it was. -/
def Ruling.after : Ruling → State → State
  | .answered _ _ _ s, _ => s
  | .accepted s, _ => s
  | .withdrawn _, s => s

@[simp] theorem Ruling.after_answered (x : Status) (a b : Word) (s s' : State) :
    (Ruling.answered x a b s').after s = s' := rfl
@[simp] theorem Ruling.after_accepted (s s' : State) : (Ruling.accepted s').after s = s' := rfl
@[simp] theorem Ruling.after_withdrawn (n : Nat) (s : State) : (Ruling.withdrawn n).after s = s := rfl
@[simp] theorem refuse_after (x : Status) (a b : Nat) (s : State) : (refuse x a b s).after s = s := rfl

/-- A dispatch either does not take place or settles the owner's ruling on the chosen ring's held record. -/
theorem dispatch_cases {k : Kind} {o : RecordOwner} {s t : State} (h : dispatch k o s = .next t) :
    t = s ∨ ∃ r record, chosenRing s = some r ∧ (s.ring r).holder = some record ∧ recordKind record = some k ∧
      t = chooseWrite (withdrawStaleEvent (dispatchHeld o r record s)) := by
  unfold dispatch at h
  split at h
  · exact .inl (by simpa using h.symm)
  · rename_i r hr
    split at h
    · exact .inl (by simpa using h.symm)
    · rename_i record hh
      split at h
      · rename_i hk
        exact .inr ⟨r, record, hr, hh, hk, by simpa [finish] using h.symm⟩
      · exact .inl (by simpa using h.symm)

/-- What the bookkeeping of a dispatch does not touch and the owner keeps, the dispatch keeps. -/
theorem dispatchHeld_keeps {γ : Type} {g : State → γ} {o : RecordOwner}
    (hp : ∀ s v, g (s.setPassOver v) = g s) (ht : ∀ r s, g (takeRecord r s) = g s)
    (hs : ∀ r n s, g (stallRing r n s) = g s) (ha : ∀ t x a b s, g (answer t x a b s) = g s)
    (ho : ∀ t record s, g ((o t record s).after s) = g s) (r : RingId) (record : List Byte) (s : State) :
    g (dispatchHeld o r record s) = g s := by
  have e := ho (ticketOf s r record) record (takeRecord r (s.setPassOver (passOverAfter s r)))
  unfold dispatchHeld
  dsimp only
  split
  · cases h : o (ticketOf s r record) record (takeRecord r (s.setPassOver (passOverAfter s r))) with
    | answered x a b s' => rw [h] at e; simp only [settleRuling, ha]; exact e.trans ((ht _ _).trans (hp _ _))
    | accepted s' => rw [h] at e; exact e.trans ((ht _ _).trans (hp _ _))
    | withdrawn n => simp only [settleRuling, hs, hp]
  · rw [ha, ht, hp]

end Sys2Proof.Machine
end

