-- ==== Sys2Proof/Laws/Bus.lean ====
section
/-! SUPPORT. What the operations at the ends of bursts leave as they are. -/

namespace Sys2Proof.Machine

@[simp] theorem issuePoster_frame (w : PosterWrite) (l : List Byte) (s : State) :
    (issuePoster w l s).pending = s.pending ∧ (issuePoster w l s).dev = s.dev ∧ (issuePoster w l s).tb = s.tb ∧
      (issuePoster w l s).cins = s.cins ∧ (issuePoster w l s).groups = s.groups ∧
      (issuePoster w l s).zones = s.zones ∧ (issuePoster w l s).tallies = s.tallies ∧
      (issuePoster w l s).glyphs = s.glyphs ∧ (issuePoster w l s).bindings = s.bindings ∧
      (issuePoster w l s).slots = s.slots ∧ (issuePoster w l s).staging = s.staging ∧
      (issuePoster w l s).channels = s.channels ∧ (issuePoster w l s).waitQueue = s.waitQueue ∧
      (issuePoster w l s).rrNext = s.rrNext ∧ (issuePoster w l s).ports = s.ports ∧
      (issuePoster w l s).lists = s.lists ∧ (issuePoster w l s).regions = s.regions ∧
      (issuePoster w l s).ringU = s.ringU ∧ (issuePoster w l s).ringB = s.ringB ∧
      (issuePoster w l s).passOver = s.passOver := by
  simp [issuePoster]

@[simp] theorem issueCompletion_frame (s : State) :
    (issueCompletion s).pending = s.pending ∧ (issueCompletion s).dev = s.dev ∧ (issueCompletion s).tb = s.tb ∧
      (issueCompletion s).cins = s.cins ∧ (issueCompletion s).groups = s.groups ∧
      (issueCompletion s).zones = s.zones ∧ (issueCompletion s).tallies = s.tallies ∧
      (issueCompletion s).glyphs = s.glyphs ∧ (issueCompletion s).bindings = s.bindings ∧
      (issueCompletion s).slots = s.slots ∧ (issueCompletion s).staging = s.staging ∧
      (issueCompletion s).channels = s.channels ∧ (issueCompletion s).waitQueue = s.waitQueue ∧
      (issueCompletion s).rrNext = s.rrNext ∧ (issueCompletion s).ports = s.ports ∧
      (issueCompletion s).lists = s.lists ∧ (issueCompletion s).regions = s.regions ∧
      (issueCompletion s).ringU = s.ringU ∧ (issueCompletion s).ringB = s.ringB ∧
      (issueCompletion s).passOver = s.passOver := by
  unfold issueCompletion; try dsimp only
  repeat' split
  all_goals simp

@[simp] theorem issueEvent_frame (e : EventSource) (s : State) :
    (issueEvent e s).pending = s.pending ∧ (issueEvent e s).dev = s.dev ∧ (issueEvent e s).tb = s.tb ∧
      (issueEvent e s).cins = s.cins ∧ (issueEvent e s).groups = s.groups ∧ (issueEvent e s).zones = s.zones ∧
      (issueEvent e s).glyphs = s.glyphs ∧ (issueEvent e s).bindings = s.bindings ∧
      (issueEvent e s).slots = s.slots ∧ (issueEvent e s).staging = s.staging ∧
      (issueEvent e s).channels = s.channels ∧ (issueEvent e s).waitQueue = s.waitQueue ∧
      (issueEvent e s).rrNext = s.rrNext ∧ (issueEvent e s).ports = s.ports ∧ (issueEvent e s).lists = s.lists ∧
      (issueEvent e s).regions = s.regions ∧ (issueEvent e s).ringU = s.ringU ∧ (issueEvent e s).ringB = s.ringB ∧
      (issueEvent e s).passOver = s.passOver := by
  simp [issueEvent]

@[simp] theorem issueRead_frame (q : Requester) (n : Nat) (s : State) :
    (issueRead q n s).pending = s.pending ∧ (issueRead q n s).dev = s.dev ∧ (issueRead q n s).tb = s.tb ∧
      (issueRead q n s).cins = s.cins ∧ (issueRead q n s).groups = s.groups ∧ (issueRead q n s).zones = s.zones ∧
      (issueRead q n s).tallies = s.tallies ∧ (issueRead q n s).glyphs = s.glyphs ∧
      (issueRead q n s).bindings = s.bindings ∧ (issueRead q n s).slots = s.slots ∧
      (issueRead q n s).staging = s.staging ∧ (issueRead q n s).channels = s.channels ∧
      (issueRead q n s).waitQueue = s.waitQueue ∧ (issueRead q n s).rrNext = s.rrNext ∧
      (issueRead q n s).ports = s.ports ∧ (issueRead q n s).lists = s.lists ∧
      (issueRead q n s).regions = s.regions ∧ (issueRead q n s).ringU = s.ringU ∧
      (issueRead q n s).ringB = s.ringB ∧ (issueRead q n s).passOver = s.passOver ∧
      (issueRead q n s).cpo = s.cpo := by
  simp [issueRead]

@[simp] theorem issueSetup_frame (a : Addr) (s : State) :
    (issueSetup a s).dev = { s.dev with setupRead := none } ∧ (issueSetup a s).pending = s.pending ∧
      (issueSetup a s).tb = s.tb ∧ (issueSetup a s).cins = s.cins ∧ (issueSetup a s).groups = s.groups ∧
      (issueSetup a s).zones = s.zones ∧ (issueSetup a s).tallies = s.tallies ∧ (issueSetup a s).glyphs = s.glyphs ∧
      (issueSetup a s).bindings = s.bindings ∧ (issueSetup a s).slots = s.slots ∧
      (issueSetup a s).staging = s.staging ∧ (issueSetup a s).channels = s.channels ∧
      (issueSetup a s).waitQueue = s.waitQueue ∧ (issueSetup a s).rrNext = s.rrNext ∧
      (issueSetup a s).ports = s.ports ∧ (issueSetup a s).lists = s.lists ∧ (issueSetup a s).regions = s.regions ∧
      (issueSetup a s).ringU = s.ringU ∧ (issueSetup a s).ringB = s.ringB ∧ (issueSetup a s).passOver = s.passOver ∧
      (issueSetup a s).cpo = s.cpo := by
  simp [issueSetup]

@[simp] theorem issueChannel_frame (c : Fin 4) (op : Operation) (s : State) :
    (issueChannel c op s).pending = s.pending ∧ (issueChannel c op s).dev = s.dev ∧
      (issueChannel c op s).tb = s.tb ∧ (issueChannel c op s).cins = s.cins ∧
      (issueChannel c op s).groups = s.groups ∧ (issueChannel c op s).zones = s.zones ∧
      (issueChannel c op s).tallies = s.tallies ∧ (issueChannel c op s).glyphs = s.glyphs ∧
      (issueChannel c op s).bindings = s.bindings ∧ (issueChannel c op s).slots = s.slots ∧
      (issueChannel c op s).staging = s.staging ∧ (issueChannel c op s).waitQueue = s.waitQueue ∧
      (issueChannel c op s).ports = s.ports ∧ (issueChannel c op s).lists = s.lists ∧
      (issueChannel c op s).regions = s.regions ∧ (issueChannel c op s).ringU = s.ringU ∧
      (issueChannel c op s).ringB = s.ringB ∧ (issueChannel c op s).passOver = s.passOver ∧
      (issueChannel c op s).cpo = s.cpo := by
  simp [issueChannel]

@[simp] theorem issueRecordsAndData_frame (s : State) :
    (issueRecordsAndData s).dev = s.dev ∧ (issueRecordsAndData s).pending = s.pending ∧
      (issueRecordsAndData s).tb = s.tb ∧ (issueRecordsAndData s).cins = s.cins ∧
      (issueRecordsAndData s).groups = s.groups ∧ (issueRecordsAndData s).zones = s.zones ∧
      (issueRecordsAndData s).tallies = s.tallies ∧ (issueRecordsAndData s).glyphs = s.glyphs ∧
      (issueRecordsAndData s).bindings = s.bindings ∧ (issueRecordsAndData s).slots = s.slots ∧
      (issueRecordsAndData s).staging = s.staging ∧ (issueRecordsAndData s).waitQueue = s.waitQueue ∧
      (issueRecordsAndData s).ports = s.ports ∧ (issueRecordsAndData s).lists = s.lists ∧
      (issueRecordsAndData s).regions = s.regions ∧ (issueRecordsAndData s).ringU = s.ringU ∧
      (issueRecordsAndData s).ringB = s.ringB ∧ (issueRecordsAndData s).passOver = s.passOver ∧
      (issueRecordsAndData s).cpo = s.cpo := by
  unfold issueRecordsAndData; try dsimp only
  repeat' split
  all_goals simp

@[simp] theorem issue_frame (s : State) :
    (issue s).pending = s.pending ∧ (issue s).tb = s.tb ∧ (issue s).cins = s.cins ∧ (issue s).groups = s.groups ∧
      (issue s).zones = s.zones ∧ (issue s).glyphs = s.glyphs ∧ (issue s).bindings = s.bindings ∧
      (issue s).slots = s.slots ∧ (issue s).staging = s.staging ∧ (issue s).waitQueue = s.waitQueue ∧
      (issue s).ports = s.ports ∧ (issue s).lists = s.lists ∧ (issue s).regions = s.regions ∧
      (issue s).ringU = s.ringU ∧ (issue s).ringB = s.ringB ∧ (issue s).passOver = s.passOver := by
  unfold issue; try dsimp only
  repeat' split
  all_goals simp

/-- An issue changes nothing of DC but the setup read presented. -/
theorem issue_dev (s : State) : (issue s).dev = s.dev ∨ (issue s).dev = { s.dev with setupRead := none } := by
  unfold issue; try dsimp only
  repeat' split
  all_goals simp

@[simp] theorem freeBus_frame (s : State) :
    (freeBus s).pending = s.pending ∧ (freeBus s).dev = s.dev ∧ (freeBus s).tb = s.tb ∧ (freeBus s).cins = s.cins ∧
      (freeBus s).groups = s.groups ∧ (freeBus s).zones = s.zones ∧ (freeBus s).tallies = s.tallies ∧
      (freeBus s).glyphs = s.glyphs ∧ (freeBus s).bindings = s.bindings ∧ (freeBus s).slots = s.slots ∧
      (freeBus s).staging = s.staging ∧ (freeBus s).channels = s.channels ∧ (freeBus s).waitQueue = s.waitQueue ∧
      (freeBus s).rrNext = s.rrNext ∧ (freeBus s).ports = s.ports ∧ (freeBus s).lists = s.lists ∧
      (freeBus s).regions = s.regions ∧ (freeBus s).ringU = s.ringU ∧ (freeBus s).ringB = s.ringB ∧
      (freeBus s).passOver = s.passOver ∧ (freeBus s).cpo = s.cpo := by
  simp [freeBus]

@[simp] theorem ringReadEnds_frame (r : RingId) (a : ReadEnd) (s : State) :
    (ringReadEnds r a s).pending = s.pending ∧ (ringReadEnds r a s).dev = s.dev ∧ (ringReadEnds r a s).tb = s.tb ∧
      (ringReadEnds r a s).cins = s.cins ∧ (ringReadEnds r a s).groups = s.groups ∧
      (ringReadEnds r a s).zones = s.zones ∧ (ringReadEnds r a s).tallies = s.tallies ∧
      (ringReadEnds r a s).glyphs = s.glyphs ∧ (ringReadEnds r a s).bindings = s.bindings ∧
      (ringReadEnds r a s).slots = s.slots ∧ (ringReadEnds r a s).staging = s.staging ∧
      (ringReadEnds r a s).channels = s.channels ∧ (ringReadEnds r a s).waitQueue = s.waitQueue ∧
      (ringReadEnds r a s).rrNext = s.rrNext ∧ (ringReadEnds r a s).flight = s.flight ∧
      (ringReadEnds r a s).ports = s.ports ∧ (ringReadEnds r a s).lists = s.lists ∧
      (ringReadEnds r a s).regions = s.regions ∧ (ringReadEnds r a s).passOver = s.passOver := by
  unfold ringReadEnds; try dsimp only
  repeat' split
  all_goals simp

@[simp] theorem posterWriteEnds_frame (w : PosterWrite) (a : WriteEnd) (s : State) :
    (posterWriteEnds w a s).pending = s.pending ∧ (posterWriteEnds w a s).tb = s.tb ∧
      (posterWriteEnds w a s).cins = s.cins ∧ (posterWriteEnds w a s).groups = s.groups ∧
      (posterWriteEnds w a s).zones = s.zones ∧ (posterWriteEnds w a s).tallies = s.tallies ∧
      (posterWriteEnds w a s).glyphs = s.glyphs ∧ (posterWriteEnds w a s).bindings = s.bindings ∧
      (posterWriteEnds w a s).slots = s.slots ∧ (posterWriteEnds w a s).staging = s.staging ∧
      (posterWriteEnds w a s).channels = s.channels ∧ (posterWriteEnds w a s).waitQueue = s.waitQueue ∧
      (posterWriteEnds w a s).rrNext = s.rrNext ∧ (posterWriteEnds w a s).flight = s.flight ∧
      (posterWriteEnds w a s).ports = s.ports ∧ (posterWriteEnds w a s).lists = s.lists ∧
      (posterWriteEnds w a s).regions = s.regions ∧ (posterWriteEnds w a s).passOver = s.passOver := by
  unfold posterWriteEnds; try dsimp only
  repeat' split
  all_goals simp

@[simp] theorem freeChannel_frame (c : Fin 4) (s : State) :
    (freeChannel c s).pending = s.pending ∧ (freeChannel c s).dev = s.dev ∧ (freeChannel c s).tb = s.tb ∧
      (freeChannel c s).cins = s.cins ∧ (freeChannel c s).groups = s.groups ∧ (freeChannel c s).zones = s.zones ∧
      (freeChannel c s).tallies = s.tallies ∧ (freeChannel c s).glyphs = s.glyphs ∧
      (freeChannel c s).bindings = s.bindings ∧ (freeChannel c s).slots = s.slots ∧
      (freeChannel c s).staging = s.staging ∧ (freeChannel c s).rrNext = s.rrNext ∧
      (freeChannel c s).flight = s.flight ∧ (freeChannel c s).ports = s.ports ∧
      (freeChannel c s).regions = s.regions ∧ (freeChannel c s).ringU = s.ringU ∧
      (freeChannel c s).ringB = s.ringB ∧ (freeChannel c s).passOver = s.passOver ∧
      (freeChannel c s).cpo = s.cpo := by
  simp [freeChannel]

@[simp] theorem nextBurst_frame (c : Fin 4) (op : Operation) (s : State) :
    (nextBurst c op s).pending = s.pending ∧ (nextBurst c op s).dev = s.dev ∧ (nextBurst c op s).tb = s.tb ∧
      (nextBurst c op s).cins = s.cins ∧ (nextBurst c op s).groups = s.groups ∧
      (nextBurst c op s).zones = s.zones ∧ (nextBurst c op s).tallies = s.tallies ∧
      (nextBurst c op s).glyphs = s.glyphs ∧ (nextBurst c op s).bindings = s.bindings ∧
      (nextBurst c op s).slots = s.slots ∧ (nextBurst c op s).staging = s.staging ∧
      (nextBurst c op s).waitQueue = s.waitQueue ∧ (nextBurst c op s).rrNext = s.rrNext ∧
      (nextBurst c op s).flight = s.flight ∧ (nextBurst c op s).ports = s.ports ∧
      (nextBurst c op s).lists = s.lists ∧ (nextBurst c op s).regions = s.regions ∧
      (nextBurst c op s).ringU = s.ringU ∧ (nextBurst c op s).ringB = s.ringB ∧
      (nextBurst c op s).passOver = s.passOver ∧ (nextBurst c op s).cpo = s.cpo := by
  simp [nextBurst]

@[simp] theorem loadEnds_frame (g : Fin 4) (op : Operation) (s : State) :
    (loadEnds g op s).pending = s.pending ∧ (loadEnds g op s).dev = s.dev ∧ (loadEnds g op s).tb = s.tb ∧
      (loadEnds g op s).cins = s.cins ∧ (loadEnds g op s).groups = s.groups ∧ (loadEnds g op s).zones = s.zones ∧
      (loadEnds g op s).tallies = s.tallies ∧ (loadEnds g op s).bindings = s.bindings ∧
      (loadEnds g op s).staging = s.staging ∧ (loadEnds g op s).channels = s.channels ∧
      (loadEnds g op s).waitQueue = s.waitQueue ∧ (loadEnds g op s).rrNext = s.rrNext ∧
      (loadEnds g op s).flight = s.flight ∧ (loadEnds g op s).ports = s.ports ∧ (loadEnds g op s).lists = s.lists ∧
      (loadEnds g op s).regions = s.regions ∧ (loadEnds g op s).passOver = s.passOver := by
  unfold loadEnds; try dsimp only
  repeat' split
  all_goals simp

@[simp] theorem loadFails_frame (g : Fin 4) (x : Status) (op : Operation) (s : State) :
    (loadFails g x op s).pending = s.pending ∧ (loadFails g x op s).dev = s.dev ∧ (loadFails g x op s).tb = s.tb ∧
      (loadFails g x op s).cins = s.cins ∧ (loadFails g x op s).groups = s.groups ∧
      (loadFails g x op s).zones = s.zones ∧ (loadFails g x op s).tallies = s.tallies ∧
      (loadFails g x op s).bindings = s.bindings ∧ (loadFails g x op s).staging = s.staging ∧
      (loadFails g x op s).channels = s.channels ∧ (loadFails g x op s).waitQueue = s.waitQueue ∧
      (loadFails g x op s).rrNext = s.rrNext ∧ (loadFails g x op s).flight = s.flight ∧
      (loadFails g x op s).ports = s.ports ∧ (loadFails g x op s).lists = s.lists ∧
      (loadFails g x op s).regions = s.regions ∧ (loadFails g x op s).passOver = s.passOver := by
  unfold loadFails; try dsimp only
  repeat' split
  all_goals simp

@[simp] theorem entryFetched_frame (p : PanelId) (r : RingId) (n : Word) (s : State) :
    (entryFetched p r n s).pending = s.pending ∧ (entryFetched p r n s).dev = s.dev ∧
      (entryFetched p r n s).tb = s.tb ∧ (entryFetched p r n s).cins = s.cins ∧
      (entryFetched p r n s).groups = s.groups ∧ (entryFetched p r n s).zones = s.zones ∧
      (entryFetched p r n s).tallies = s.tallies ∧ (entryFetched p r n s).glyphs = s.glyphs ∧
      (entryFetched p r n s).bindings = s.bindings ∧ (entryFetched p r n s).slots = s.slots ∧
      (entryFetched p r n s).staging = s.staging ∧ (entryFetched p r n s).channels = s.channels ∧
      (entryFetched p r n s).waitQueue = s.waitQueue ∧ (entryFetched p r n s).rrNext = s.rrNext ∧
      (entryFetched p r n s).flight = s.flight ∧ (entryFetched p r n s).ports = s.ports ∧
      (entryFetched p r n s).regions = s.regions ∧ (entryFetched p r n s).ringU = s.ringU ∧
      (entryFetched p r n s).ringB = s.ringB ∧ (entryFetched p r n s).passOver = s.passOver ∧
      (entryFetched p r n s).cpo = s.cpo := by
  simp [entryFetched]

@[simp] theorem fetchDone_frame (op : Operation) (s : State) :
    (fetchDone op s).pending = s.pending ∧ (fetchDone op s).dev = s.dev ∧ (fetchDone op s).tb = s.tb ∧
      (fetchDone op s).cins = s.cins ∧ (fetchDone op s).groups = s.groups ∧ (fetchDone op s).zones = s.zones ∧
      (fetchDone op s).tallies = s.tallies ∧ (fetchDone op s).bindings = s.bindings ∧
      (fetchDone op s).staging = s.staging ∧ (fetchDone op s).channels = s.channels ∧
      (fetchDone op s).waitQueue = s.waitQueue ∧ (fetchDone op s).rrNext = s.rrNext ∧
      (fetchDone op s).flight = s.flight ∧ (fetchDone op s).ports = s.ports ∧
      (fetchDone op s).regions = s.regions ∧ (fetchDone op s).passOver = s.passOver := by
  unfold fetchDone; try dsimp only
  repeat' split
  all_goals simp

@[simp] theorem entryEnds_frame (p : PanelId) (r : RingId) (n : Word) (x : Status) (d : Entry → Word × Word) (s : State) :
    (entryEnds p r n x d s).pending = s.pending ∧ (entryEnds p r n x d s).dev = s.dev ∧
      (entryEnds p r n x d s).tb = s.tb ∧ (entryEnds p r n x d s).cins = s.cins ∧
      (entryEnds p r n x d s).groups = s.groups ∧ (entryEnds p r n x d s).zones = s.zones ∧
      (entryEnds p r n x d s).tallies = s.tallies ∧ (entryEnds p r n x d s).glyphs = s.glyphs ∧
      (entryEnds p r n x d s).bindings = s.bindings ∧ (entryEnds p r n x d s).staging = s.staging ∧
      (entryEnds p r n x d s).channels = s.channels ∧ (entryEnds p r n x d s).waitQueue = s.waitQueue ∧
      (entryEnds p r n x d s).rrNext = s.rrNext ∧ (entryEnds p r n x d s).flight = s.flight ∧
      (entryEnds p r n x d s).ports = s.ports ∧ (entryEnds p r n x d s).regions = s.regions ∧
      (entryEnds p r n x d s).passOver = s.passOver := by
  unfold entryEnds; try dsimp only
  repeat' split
  all_goals simp

@[simp] theorem operationFails_frame (op : Operation) (x : Status) (s : State) :
    (operationFails op x s).pending = s.pending ∧ (operationFails op x s).dev = s.dev ∧
      (operationFails op x s).tb = s.tb ∧ (operationFails op x s).cins = s.cins ∧
      (operationFails op x s).groups = s.groups ∧ (operationFails op x s).zones = s.zones ∧
      (operationFails op x s).tallies = s.tallies ∧ (operationFails op x s).bindings = s.bindings ∧
      (operationFails op x s).staging = s.staging ∧ (operationFails op x s).channels = s.channels ∧
      (operationFails op x s).waitQueue = s.waitQueue ∧ (operationFails op x s).rrNext = s.rrNext ∧
      (operationFails op x s).flight = s.flight ∧ (operationFails op x s).ports = s.ports ∧
      (operationFails op x s).regions = s.regions ∧ (operationFails op x s).passOver = s.passOver := by
  unfold operationFails; try dsimp only
  repeat' split
  all_goals simp

@[simp] theorem writeBackDone_frame (op : Operation) (s : State) :
    (writeBackDone op s).pending = s.pending ∧ (writeBackDone op s).dev = s.dev ∧ (writeBackDone op s).tb = s.tb ∧
      (writeBackDone op s).cins = s.cins ∧ (writeBackDone op s).groups = s.groups ∧
      (writeBackDone op s).zones = s.zones ∧ (writeBackDone op s).tallies = s.tallies ∧
      (writeBackDone op s).glyphs = s.glyphs ∧ (writeBackDone op s).bindings = s.bindings ∧
      (writeBackDone op s).staging = s.staging ∧ (writeBackDone op s).channels = s.channels ∧
      (writeBackDone op s).waitQueue = s.waitQueue ∧ (writeBackDone op s).rrNext = s.rrNext ∧
      (writeBackDone op s).flight = s.flight ∧ (writeBackDone op s).ports = s.ports ∧
      (writeBackDone op s).regions = s.regions ∧ (writeBackDone op s).passOver = s.passOver := by
  unfold writeBackDone; try dsimp only
  repeat' split
  all_goals simp

@[simp] theorem fetchEnds_frame (c : Fin 4) (op : Operation) (a : ReadEnd) (s : State) :
    (fetchEnds c op a s).pending = s.pending ∧ (fetchEnds c op a s).dev = s.dev ∧ (fetchEnds c op a s).tb = s.tb ∧
      (fetchEnds c op a s).cins = s.cins ∧ (fetchEnds c op a s).groups = s.groups ∧
      (fetchEnds c op a s).zones = s.zones ∧ (fetchEnds c op a s).tallies = s.tallies ∧
      (fetchEnds c op a s).bindings = s.bindings ∧ (fetchEnds c op a s).rrNext = s.rrNext ∧
      (fetchEnds c op a s).flight = s.flight ∧ (fetchEnds c op a s).ports = s.ports ∧
      (fetchEnds c op a s).regions = s.regions ∧ (fetchEnds c op a s).passOver = s.passOver := by
  unfold fetchEnds; try dsimp only
  repeat' split
  all_goals simp

@[simp] theorem writeBackEnds_frame (c : Fin 4) (op : Operation) (a : WriteEnd) (s : State) :
    (writeBackEnds c op a s).pending = s.pending ∧ (writeBackEnds c op a s).dev = s.dev ∧
      (writeBackEnds c op a s).tb = s.tb ∧ (writeBackEnds c op a s).cins = s.cins ∧
      (writeBackEnds c op a s).groups = s.groups ∧ (writeBackEnds c op a s).zones = s.zones ∧
      (writeBackEnds c op a s).tallies = s.tallies ∧ (writeBackEnds c op a s).bindings = s.bindings ∧
      (writeBackEnds c op a s).staging = s.staging ∧ (writeBackEnds c op a s).rrNext = s.rrNext ∧
      (writeBackEnds c op a s).flight = s.flight ∧ (writeBackEnds c op a s).ports = s.ports ∧
      (writeBackEnds c op a s).regions = s.regions ∧ (writeBackEnds c op a s).passOver = s.passOver := by
  unfold writeBackEnds; try dsimp only
  repeat' split
  all_goals simp

@[simp] theorem orphanEnds_frame (op : Operation) (a : ReadEnd) (s : State) :
    (orphanEnds op a s).pending = s.pending ∧ (orphanEnds op a s).dev = s.dev ∧ (orphanEnds op a s).tb = s.tb ∧
      (orphanEnds op a s).cins = s.cins ∧ (orphanEnds op a s).groups = s.groups ∧
      (orphanEnds op a s).zones = s.zones ∧ (orphanEnds op a s).tallies = s.tallies ∧
      (orphanEnds op a s).glyphs = s.glyphs ∧ (orphanEnds op a s).bindings = s.bindings ∧
      (orphanEnds op a s).channels = s.channels ∧ (orphanEnds op a s).waitQueue = s.waitQueue ∧
      (orphanEnds op a s).rrNext = s.rrNext ∧ (orphanEnds op a s).flight = s.flight ∧
      (orphanEnds op a s).ports = s.ports ∧ (orphanEnds op a s).lists = s.lists ∧
      (orphanEnds op a s).regions = s.regions ∧ (orphanEnds op a s).passOver = s.passOver ∧
      (orphanEnds op a s).cpo = s.cpo := by
  unfold orphanEnds; try dsimp only
  repeat' split
  all_goals simp

@[simp] theorem timeoutEnds_frame (q : Requester) (s : State) :
    (timeoutEnds q s).pending = s.pending ∧ (timeoutEnds q s).tb = s.tb ∧ (timeoutEnds q s).cins = s.cins ∧
      (timeoutEnds q s).groups = s.groups ∧ (timeoutEnds q s).zones = s.zones ∧
      (timeoutEnds q s).tallies = s.tallies ∧ (timeoutEnds q s).bindings = s.bindings ∧
      (timeoutEnds q s).rrNext = s.rrNext ∧ (timeoutEnds q s).ports = s.ports ∧
      (timeoutEnds q s).regions = s.regions ∧ (timeoutEnds q s).passOver = s.passOver := by
  unfold timeoutEnds; try dsimp only
  repeat' split
  all_goals simp

end Sys2Proof.Machine
end

