-- ==== Sys2Proof/Laws/Device.lean ====
section
/-! SUPPORT. What the resets, the setup, the register writes and the port events leave as they are. -/

namespace Sys2Proof.Machine

@[simp] theorem softResetRings_frame (s : State) :
    (softResetRings s).pending = s.pending ∧ (softResetRings s).dev = s.dev ∧ (softResetRings s).tb = s.tb ∧
      (softResetRings s).cins = s.cins ∧ (softResetRings s).groups = s.groups ∧
      (softResetRings s).zones = s.zones ∧ (softResetRings s).tallies = s.tallies ∧
      (softResetRings s).glyphs = s.glyphs ∧ (softResetRings s).bindings = s.bindings ∧
      (softResetRings s).slots = s.slots ∧ (softResetRings s).staging = s.staging ∧
      (softResetRings s).channels = s.channels ∧ (softResetRings s).waitQueue = s.waitQueue ∧
      (softResetRings s).rrNext = s.rrNext ∧ (softResetRings s).flight = s.flight ∧
      (softResetRings s).ports = s.ports ∧ (softResetRings s).lists = s.lists ∧
      (softResetRings s).regions = s.regions ∧ (softResetRings s).cpo = s.cpo := by
  simp [softResetRings]

@[simp] theorem softResetUnits_frame (s : State) :
    (softResetUnits s).pending = s.pending ∧ (softResetUnits s).dev = s.dev ∧ (softResetUnits s).tb = s.tb ∧
      (softResetUnits s).slots = s.slots ∧ (softResetUnits s).staging = s.staging ∧
      (softResetUnits s).channels = s.channels ∧ (softResetUnits s).waitQueue = s.waitQueue ∧
      (softResetUnits s).rrNext = s.rrNext ∧ (softResetUnits s).flight = s.flight ∧
      (softResetUnits s).ports = s.ports ∧ (softResetUnits s).lists = s.lists ∧
      (softResetUnits s).regions = s.regions ∧ (softResetUnits s).ringU = s.ringU ∧
      (softResetUnits s).ringB = s.ringB ∧ (softResetUnits s).passOver = s.passOver ∧
      (softResetUnits s).cpo = s.cpo := by
  simp [softResetUnits]

@[simp] theorem softResetLists_frame (s : State) :
    (softResetLists s).pending = s.pending ∧ (softResetLists s).dev = s.dev ∧ (softResetLists s).tb = s.tb ∧
      (softResetLists s).cins = s.cins ∧ (softResetLists s).groups = s.groups ∧
      (softResetLists s).zones = s.zones ∧ (softResetLists s).tallies = s.tallies ∧
      (softResetLists s).glyphs = s.glyphs ∧ (softResetLists s).bindings = s.bindings ∧
      (softResetLists s).staging = s.staging ∧ (softResetLists s).rrNext = s.rrNext ∧
      (softResetLists s).ports = s.ports ∧ (softResetLists s).regions = s.regions ∧
      (softResetLists s).ringU = s.ringU ∧ (softResetLists s).ringB = s.ringB ∧
      (softResetLists s).passOver = s.passOver ∧ (softResetLists s).cpo = s.cpo := by
  simp [softResetLists]

@[simp] theorem softResetBlocks_frame (s : State) :
    (softResetBlocks s).pending = s.pending ∧ (softResetBlocks s).tb = s.tb ∧
      (softResetBlocks s).staging = s.staging ∧ (softResetBlocks s).rrNext = s.rrNext ∧
      (softResetBlocks s).ports = s.ports ∧ (softResetBlocks s).regions = s.regions := by
  simp [softResetBlocks]

@[simp] theorem enterResetting_frame (s : State) :
    (enterResetting s).pending = s.pending ∧ (enterResetting s).tb = s.tb ∧
      (enterResetting s).rrNext = s.rrNext := by
  unfold enterResetting
  refine ⟨?_, ?_, ?_⟩ <;> exact (foldl_keeps (by intros; simp) _ _).trans (by simp)

@[simp] theorem setupFails_frame (c : Cause) (n : Nat) (e : Bool) (s : State) :
    (setupFails c n e s).pending = s.pending ∧ (setupFails c n e s).tb = s.tb ∧ (setupFails c n e s).cins = s.cins ∧
      (setupFails c n e s).groups = s.groups ∧ (setupFails c n e s).zones = s.zones ∧
      (setupFails c n e s).tallies = s.tallies ∧ (setupFails c n e s).glyphs = s.glyphs ∧
      (setupFails c n e s).bindings = s.bindings ∧ (setupFails c n e s).slots = s.slots ∧
      (setupFails c n e s).staging = s.staging ∧ (setupFails c n e s).channels = s.channels ∧
      (setupFails c n e s).waitQueue = s.waitQueue ∧ (setupFails c n e s).rrNext = s.rrNext ∧
      (setupFails c n e s).flight = s.flight ∧ (setupFails c n e s).ports = s.ports ∧
      (setupFails c n e s).lists = s.lists ∧ (setupFails c n e s).regions = s.regions ∧
      (setupFails c n e s).ringU = s.ringU ∧ (setupFails c n e s).ringB = s.ringB ∧
      (setupFails c n e s).passOver = s.passOver ∧ (setupFails c n e s).cpo = s.cpo := by
  simp [setupFails]

@[simp] theorem enterSetup_frame (s : State) :
    (enterSetup s).pending = s.pending ∧ (enterSetup s).tb = s.tb ∧ (enterSetup s).cins = s.cins ∧
      (enterSetup s).groups = s.groups ∧ (enterSetup s).zones = s.zones ∧ (enterSetup s).tallies = s.tallies ∧
      (enterSetup s).glyphs = s.glyphs ∧ (enterSetup s).bindings = s.bindings ∧ (enterSetup s).slots = s.slots ∧
      (enterSetup s).staging = s.staging ∧ (enterSetup s).channels = s.channels ∧
      (enterSetup s).waitQueue = s.waitQueue ∧ (enterSetup s).rrNext = s.rrNext ∧
      (enterSetup s).flight = s.flight ∧ (enterSetup s).ports = s.ports ∧ (enterSetup s).lists = s.lists ∧
      (enterSetup s).regions = s.regions ∧ (enterSetup s).ringU = s.ringU ∧ (enterSetup s).ringB = s.ringB ∧
      (enterSetup s).passOver = s.passOver ∧ (enterSetup s).cpo = s.cpo := by
  unfold enterSetup; try dsimp only
  repeat' split
  all_goals simp

@[simp] theorem clearEpochs_frame (s : State) :
    (clearEpochs s).pending = s.pending ∧ (clearEpochs s).dev = s.dev ∧ (clearEpochs s).tb = s.tb ∧
      (clearEpochs s).cins = s.cins ∧ (clearEpochs s).zones = s.zones ∧ (clearEpochs s).tallies = s.tallies ∧
      (clearEpochs s).glyphs = s.glyphs ∧ (clearEpochs s).bindings = s.bindings ∧ (clearEpochs s).slots = s.slots ∧
      (clearEpochs s).staging = s.staging ∧ (clearEpochs s).channels = s.channels ∧
      (clearEpochs s).waitQueue = s.waitQueue ∧ (clearEpochs s).rrNext = s.rrNext ∧
      (clearEpochs s).flight = s.flight ∧ (clearEpochs s).ports = s.ports ∧ (clearEpochs s).lists = s.lists ∧
      (clearEpochs s).regions = s.regions ∧ (clearEpochs s).ringU = s.ringU ∧ (clearEpochs s).ringB = s.ringB ∧
      (clearEpochs s).passOver = s.passOver ∧ (clearEpochs s).cpo = s.cpo := by
  simp [clearEpochs]

@[simp] theorem settleLines_frame (s : State) :
    (settleLines s).pending = s.pending ∧ (settleLines s).dev = s.dev ∧ (settleLines s).tb = s.tb ∧
      (settleLines s).groups = s.groups ∧ (settleLines s).zones = s.zones ∧ (settleLines s).tallies = s.tallies ∧
      (settleLines s).glyphs = s.glyphs ∧ (settleLines s).bindings = s.bindings ∧ (settleLines s).slots = s.slots ∧
      (settleLines s).staging = s.staging ∧ (settleLines s).channels = s.channels ∧
      (settleLines s).waitQueue = s.waitQueue ∧ (settleLines s).rrNext = s.rrNext ∧
      (settleLines s).flight = s.flight ∧ (settleLines s).ports = s.ports ∧ (settleLines s).lists = s.lists ∧
      (settleLines s).regions = s.regions ∧ (settleLines s).ringU = s.ringU ∧ (settleLines s).ringB = s.ringB ∧
      (settleLines s).passOver = s.passOver ∧ (settleLines s).cpo = s.cpo := by
  simp [settleLines]

@[simp] theorem loadTimebase_frame (n : Nat) (s : State) :
    (loadTimebase n s).pending = s.pending ∧ (loadTimebase n s).dev = s.dev ∧ (loadTimebase n s).zones = s.zones ∧
      (loadTimebase n s).tallies = s.tallies ∧ (loadTimebase n s).glyphs = s.glyphs ∧
      (loadTimebase n s).bindings = s.bindings ∧ (loadTimebase n s).slots = s.slots ∧
      (loadTimebase n s).staging = s.staging ∧ (loadTimebase n s).channels = s.channels ∧
      (loadTimebase n s).waitQueue = s.waitQueue ∧ (loadTimebase n s).rrNext = s.rrNext ∧
      (loadTimebase n s).flight = s.flight ∧ (loadTimebase n s).ports = s.ports ∧
      (loadTimebase n s).lists = s.lists ∧ (loadTimebase n s).regions = s.regions ∧
      (loadTimebase n s).ringU = s.ringU ∧ (loadTimebase n s).ringB = s.ringB ∧
      (loadTimebase n s).passOver = s.passOver ∧ (loadTimebase n s).cpo = s.cpo := by
  unfold loadTimebase; try dsimp only
  repeat' split
  all_goals simp

@[simp] theorem applySetup_frame (v : SetupValues) (s : State) :
    (applySetup v s).pending = s.pending ∧ (applySetup v s).zones = s.zones ∧
      (applySetup v s).tallies = s.tallies ∧ (applySetup v s).glyphs = s.glyphs ∧
      (applySetup v s).bindings = s.bindings ∧ (applySetup v s).slots = s.slots ∧
      (applySetup v s).staging = s.staging ∧ (applySetup v s).channels = s.channels ∧
      (applySetup v s).waitQueue = s.waitQueue ∧ (applySetup v s).rrNext = s.rrNext ∧
      (applySetup v s).flight = s.flight ∧ (applySetup v s).ports = s.ports ∧ (applySetup v s).lists = s.lists ∧
      (applySetup v s).regions = s.regions := by
  simp [applySetup]

@[simp] theorem setupReadEnds_frame (a : ReadEnd) (s : State) :
    (setupReadEnds a s).pending = s.pending ∧ (setupReadEnds a s).rrNext = s.rrNext := by
  unfold setupReadEnds; try dsimp only
  repeat' split
  all_goals simp

@[simp] theorem writeIntEnable_frame (v : Bool) (s : State) :
    (writeIntEnable v s).pending = s.pending ∧ (writeIntEnable v s).tb = s.tb ∧
      (writeIntEnable v s).cins = s.cins ∧ (writeIntEnable v s).groups = s.groups ∧
      (writeIntEnable v s).zones = s.zones ∧ (writeIntEnable v s).tallies = s.tallies ∧
      (writeIntEnable v s).glyphs = s.glyphs ∧ (writeIntEnable v s).bindings = s.bindings ∧
      (writeIntEnable v s).slots = s.slots ∧ (writeIntEnable v s).staging = s.staging ∧
      (writeIntEnable v s).channels = s.channels ∧ (writeIntEnable v s).waitQueue = s.waitQueue ∧
      (writeIntEnable v s).rrNext = s.rrNext ∧ (writeIntEnable v s).flight = s.flight ∧
      (writeIntEnable v s).ports = s.ports ∧ (writeIntEnable v s).lists = s.lists ∧
      (writeIntEnable v s).regions = s.regions ∧ (writeIntEnable v s).ringU = s.ringU ∧
      (writeIntEnable v s).ringB = s.ringB ∧ (writeIntEnable v s).passOver = s.passOver ∧
      (writeIntEnable v s).cpo = s.cpo := by
  simp [writeIntEnable]

@[simp] theorem writeSoftReset_frame (s : State) :
    (writeSoftReset s).pending = s.pending ∧ (writeSoftReset s).tb = s.tb ∧
      (writeSoftReset s).rrNext = s.rrNext := by
  unfold writeSoftReset; try dsimp only
  repeat' split
  all_goals simp

@[simp] theorem writeEnable_frame (v : Bool) (s : State) :
    (writeEnable v s).pending = s.pending ∧ (writeEnable v s).tb = s.tb ∧ (writeEnable v s).cins = s.cins ∧
      (writeEnable v s).groups = s.groups ∧ (writeEnable v s).zones = s.zones ∧
      (writeEnable v s).tallies = s.tallies ∧ (writeEnable v s).glyphs = s.glyphs ∧
      (writeEnable v s).bindings = s.bindings ∧ (writeEnable v s).slots = s.slots ∧
      (writeEnable v s).staging = s.staging ∧ (writeEnable v s).channels = s.channels ∧
      (writeEnable v s).waitQueue = s.waitQueue ∧ (writeEnable v s).rrNext = s.rrNext ∧
      (writeEnable v s).flight = s.flight ∧ (writeEnable v s).ports = s.ports ∧ (writeEnable v s).lists = s.lists ∧
      (writeEnable v s).regions = s.regions ∧ (writeEnable v s).ringU = s.ringU ∧
      (writeEnable v s).ringB = s.ringB ∧ (writeEnable v s).passOver = s.passOver ∧
      (writeEnable v s).cpo = s.cpo := by
  unfold writeEnable; try dsimp only
  repeat' split
  all_goals simp

@[simp] theorem writeControl_frame (v : Word) (s : State) :
    (writeControl v s).pending = s.pending ∧ (writeControl v s).tb = s.tb ∧
      (writeControl v s).rrNext = s.rrNext := by
  unfold writeControl; try dsimp only
  repeat' split
  all_goals simp

@[simp] theorem writeTail_frame (r : RingId) (n : Nat) (s : State) :
    (writeTail r n s).pending = s.pending ∧ (writeTail r n s).dev = s.dev ∧ (writeTail r n s).tb = s.tb ∧
      (writeTail r n s).cins = s.cins ∧ (writeTail r n s).groups = s.groups ∧ (writeTail r n s).zones = s.zones ∧
      (writeTail r n s).tallies = s.tallies ∧ (writeTail r n s).glyphs = s.glyphs ∧
      (writeTail r n s).bindings = s.bindings ∧ (writeTail r n s).slots = s.slots ∧
      (writeTail r n s).staging = s.staging ∧ (writeTail r n s).channels = s.channels ∧
      (writeTail r n s).waitQueue = s.waitQueue ∧ (writeTail r n s).rrNext = s.rrNext ∧
      (writeTail r n s).flight = s.flight ∧ (writeTail r n s).ports = s.ports ∧ (writeTail r n s).lists = s.lists ∧
      (writeTail r n s).regions = s.regions ∧ (writeTail r n s).passOver = s.passOver := by
  unfold writeTail; try dsimp only
  repeat' split
  all_goals simp

@[simp] theorem writeRelease_frame (n : Nat) (s : State) :
    (writeRelease n s).pending = s.pending ∧ (writeRelease n s).tb = s.tb ∧ (writeRelease n s).cins = s.cins ∧
      (writeRelease n s).groups = s.groups ∧ (writeRelease n s).zones = s.zones ∧
      (writeRelease n s).tallies = s.tallies ∧ (writeRelease n s).glyphs = s.glyphs ∧
      (writeRelease n s).bindings = s.bindings ∧ (writeRelease n s).slots = s.slots ∧
      (writeRelease n s).staging = s.staging ∧ (writeRelease n s).channels = s.channels ∧
      (writeRelease n s).waitQueue = s.waitQueue ∧ (writeRelease n s).rrNext = s.rrNext ∧
      (writeRelease n s).flight = s.flight ∧ (writeRelease n s).ports = s.ports ∧
      (writeRelease n s).lists = s.lists ∧ (writeRelease n s).regions = s.regions ∧
      (writeRelease n s).passOver = s.passOver := by
  unfold writeRelease; try dsimp only
  repeat' split
  all_goals simp

@[simp] theorem writePlain_frame (r : PlainRegister) (v : Word) (s : State) :
    (writePlain r v s).pending = s.pending ∧ (writePlain r v s).tb = s.tb ∧ (writePlain r v s).cins = s.cins ∧
      (writePlain r v s).groups = s.groups ∧ (writePlain r v s).zones = s.zones ∧
      (writePlain r v s).tallies = s.tallies ∧ (writePlain r v s).glyphs = s.glyphs ∧
      (writePlain r v s).bindings = s.bindings ∧ (writePlain r v s).slots = s.slots ∧
      (writePlain r v s).staging = s.staging ∧ (writePlain r v s).channels = s.channels ∧
      (writePlain r v s).waitQueue = s.waitQueue ∧ (writePlain r v s).rrNext = s.rrNext ∧
      (writePlain r v s).flight = s.flight ∧ (writePlain r v s).ports = s.ports ∧
      (writePlain r v s).lists = s.lists ∧ (writePlain r v s).regions = s.regions ∧
      (writePlain r v s).ringU = s.ringU ∧ (writePlain r v s).ringB = s.ringB ∧
      (writePlain r v s).passOver = s.passOver ∧ (writePlain r v s).cpo = s.cpo := by
  unfold writePlain; try dsimp only
  repeat' split
  all_goals simp

@[simp] theorem reachRunning_frame (p : PanelId) (s : State) :
    (reachRunning p s).pending = s.pending ∧ (reachRunning p s).dev = s.dev ∧ (reachRunning p s).tb = s.tb ∧
      (reachRunning p s).cins = s.cins ∧ (reachRunning p s).groups = s.groups ∧
      (reachRunning p s).zones = s.zones ∧ (reachRunning p s).tallies = s.tallies ∧
      (reachRunning p s).glyphs = s.glyphs ∧ (reachRunning p s).bindings = s.bindings ∧
      (reachRunning p s).slots = s.slots ∧ (reachRunning p s).staging = s.staging ∧
      (reachRunning p s).channels = s.channels ∧ (reachRunning p s).waitQueue = s.waitQueue ∧
      (reachRunning p s).rrNext = s.rrNext ∧ (reachRunning p s).flight = s.flight ∧
      (reachRunning p s).lists = s.lists ∧ (reachRunning p s).regions = s.regions ∧
      (reachRunning p s).passOver = s.passOver := by
  simp [reachRunning]

@[simp] theorem afterFrame_frame (p : PanelId) (s : State) :
    (afterFrame p s).pending = s.pending ∧ (afterFrame p s).dev = s.dev ∧ (afterFrame p s).tb = s.tb ∧
      (afterFrame p s).cins = s.cins ∧ (afterFrame p s).groups = s.groups ∧ (afterFrame p s).zones = s.zones ∧
      (afterFrame p s).tallies = s.tallies ∧ (afterFrame p s).glyphs = s.glyphs ∧
      (afterFrame p s).rrNext = s.rrNext ∧ (afterFrame p s).flight = s.flight ∧
      (afterFrame p s).passOver = s.passOver := by
  unfold afterFrame; try dsimp only
  repeat' split
  all_goals simp

@[simp] theorem endFrame_frame (p : PanelId) (f : Frame) (s : State) :
    (endFrame p f s).pending = s.pending ∧ (endFrame p f s).dev = s.dev ∧ (endFrame p f s).tb = s.tb ∧
      (endFrame p f s).cins = s.cins ∧ (endFrame p f s).groups = s.groups ∧ (endFrame p f s).zones = s.zones ∧
      (endFrame p f s).tallies = s.tallies ∧ (endFrame p f s).glyphs = s.glyphs ∧
      (endFrame p f s).rrNext = s.rrNext ∧ (endFrame p f s).flight = s.flight ∧
      (endFrame p f s).passOver = s.passOver := by
  simp [endFrame]

@[simp] theorem setFaultLine_frame (p : PanelId) (v : Bool) (s : State) :
    (setFaultLine p v s).pending = s.pending ∧ (setFaultLine p v s).dev = s.dev ∧ (setFaultLine p v s).tb = s.tb ∧
      (setFaultLine p v s).cins = s.cins ∧ (setFaultLine p v s).groups = s.groups ∧
      (setFaultLine p v s).zones = s.zones ∧ (setFaultLine p v s).tallies = s.tallies ∧
      (setFaultLine p v s).glyphs = s.glyphs ∧ (setFaultLine p v s).bindings = s.bindings ∧
      (setFaultLine p v s).slots = s.slots ∧ (setFaultLine p v s).staging = s.staging ∧
      (setFaultLine p v s).channels = s.channels ∧ (setFaultLine p v s).waitQueue = s.waitQueue ∧
      (setFaultLine p v s).rrNext = s.rrNext ∧ (setFaultLine p v s).flight = s.flight ∧
      (setFaultLine p v s).lists = s.lists ∧ (setFaultLine p v s).regions = s.regions ∧
      (setFaultLine p v s).ringU = s.ringU ∧ (setFaultLine p v s).ringB = s.ringB ∧
      (setFaultLine p v s).passOver = s.passOver ∧ (setFaultLine p v s).cpo = s.cpo := by
  simp [setFaultLine]

@[simp] theorem assertFault_frame (p : PanelId) (s : State) :
    (assertFault p s).pending = s.pending ∧ (assertFault p s).dev = s.dev ∧ (assertFault p s).tb = s.tb ∧
      (assertFault p s).cins = s.cins ∧ (assertFault p s).groups = s.groups ∧ (assertFault p s).zones = s.zones ∧
      (assertFault p s).tallies = s.tallies ∧ (assertFault p s).glyphs = s.glyphs ∧
      (assertFault p s).bindings = s.bindings ∧ (assertFault p s).staging = s.staging ∧
      (assertFault p s).rrNext = s.rrNext ∧ (assertFault p s).regions = s.regions ∧
      (assertFault p s).passOver = s.passOver := by
  unfold assertFault; try dsimp only
  repeat' split
  all_goals simp

end Sys2Proof.Machine
end

