-- ==== Sys2Proof/Laws/Memory.lean ====
section
/-! SUPPORT. The laws of memory cells: a read after a write, the canonical form and its preservation by every operation
that writes cells, and what a painted rectangle reads as. -/

namespace Sys2Proof.Machine

/-! ## Canonical form -/

theorem Memory.wfFrom_cons {low b : Nat} {w : Byte} {m : Memory} :
    Memory.wfFrom low ((b, w) :: m) = true ↔ low ≤ b ∧ w ≠ 0 ∧ Memory.wfFrom (b + 1) m = true := by
  simp [Memory.wfFrom, and_assoc]

theorem Memory.wfFrom_mono {low low' : Nat} (h : low' ≤ low) :
    ∀ {m : Memory}, Memory.wfFrom low m = true → Memory.wfFrom low' m = true
  | [], _ => rfl
  | (b, w) :: m, hm => by
    rw [Memory.wfFrom_cons] at hm ⊢
    exact ⟨h.trans hm.1, hm.2⟩

/-- Below the first address everything reads 0. -/
theorem Memory.read_below {low a : Nat} (h : a < low) : ∀ {m : Memory}, Memory.wfFrom low m = true → m.read a = 0
  | [], _ => rfl
  | (b, w) :: m, hm => by
    rw [Memory.wfFrom_cons] at hm
    simp [Memory.read, Nat.lt_of_lt_of_le h hm.1]

theorem Memory.write_wfFrom {low a : Nat} {v : Byte} (h : low ≤ a) :
    ∀ {m : Memory}, Memory.wfFrom low m = true → Memory.wfFrom low (m.write a v) = true
  | [], _ => by
    unfold Memory.write
    split
    · rfl
    · exact Memory.wfFrom_cons.2 ⟨h, ‹_›, rfl⟩
  | (b, w) :: m, hm => by
    have hm' := Memory.wfFrom_cons.1 hm
    unfold Memory.write
    split
    · split
      · exact hm
      · exact Memory.wfFrom_cons.2 ⟨h, ‹_›, Memory.wfFrom_cons.2 ⟨by omega, hm'.2⟩⟩
    · split
      · split
        · exact Memory.wfFrom_mono (by omega) hm'.2.2
        · exact Memory.wfFrom_cons.2 ⟨h, ‹_›, by subst a; exact hm'.2.2⟩
      · exact Memory.wfFrom_cons.2 ⟨hm'.1, hm'.2.1, Memory.write_wfFrom (by omega) hm'.2.2⟩

/-- A write keeps the canonical form. -/
theorem Memory.write_wf {m : Memory} (h : m.wf = true) (a : Nat) (v : Byte) : (m.write a v).wf = true :=
  Memory.write_wfFrom (Nat.zero_le a) h

@[simp] theorem Memory.wf_nil : Memory.wf [] = true := rfl

/-! ## A read after a write -/

theorem Memory.read_write_from {low a c : Nat} {v : Byte} :
    ∀ {m : Memory}, Memory.wfFrom low m = true → (m.write a v).read c = if c = a then v else m.read c
  | [], _ => by
    unfold Memory.write
    split <;> rename_i h
    · subst h; simp [Memory.read]
    · simp only [Memory.read]
      split
      · rw [if_neg (by omega)]
      · rfl
  | (b, w) :: m, hm => by
    have hm' := Memory.wfFrom_cons.1 hm
    unfold Memory.write
    split
    · rename_i hab
      split <;> rename_i hv
      · subst hv
        split
        · subst c; simp [Memory.read, hab]
        · rfl
      · by_cases hc : c = a
        · subst hc; simp [Memory.read]
        · simp only [Memory.read, hc, if_false]
          split
          · rw [if_pos (by omega)]
          · rfl
    · split
      · rename_i hab
        subst hab
        split <;> rename_i hv
        · subst hv
          by_cases hc : c = a
          · subst hc; simp [Memory.read_below (Nat.lt_succ_self c) hm'.2.2]
          · simp only [Memory.read, hc, if_false]
            split
            · exact Memory.read_below (by omega) hm'.2.2
            · rfl
        · by_cases hc : c = a
          · subst hc; simp [Memory.read]
          · simp [Memory.read, hc]
      · rename_i h1 h2
        simp only [Memory.read, Memory.read_write_from hm'.2.2]
        split
        · rw [if_neg (by omega)]
        · split
          · subst c; rw [if_neg (Ne.symm h2)]
          · rfl

/-- In canonical form a read after a write gives the byte written, and every other address reads as before. -/
theorem Memory.read_write {m : Memory} (h : m.wf = true) (a c : Nat) (v : Byte) :
    (m.write a v).read c = if c = a then v else m.read c := Memory.read_write_from h

/-! ## Folds of writes -/

/-- A fold of writes keeps the canonical form. -/
theorem foldl_write_wf {α : Type} (g : α → Nat) (f : α → Byte) :
    ∀ (l : List α) (m : Memory), m.wf = true → (l.foldl (fun m x => m.write (g x) (f x)) m).wf = true
  | [], _, h => h
  | x :: l, _, h => foldl_write_wf g f l _ (Memory.write_wf h (g x) (f x))

theorem paint_wf {m : Memory} (h : m.wf = true) (r : Rect) (f : Nat → Nat → Nat) : (paint m r f).wf = true :=
  foldl_write_wf (fun p : Nat × Nat => pixelAddress (r.x + p.1) (r.y + p.2)) (fun p => BitVec.ofNat 8 (f p.1 p.2)) _ m h

theorem stageBytes_wf {m : Memory} (h : m.wf = true) (slots : List (Fin 24)) (start n : Nat) (f : Nat → Byte) :
    (stageBytes m slots start n f).wf = true :=
  foldl_write_wf (fun j => stagedAddress slots (start + j)) (fun j => f (start + j)) _ m h

/-- An address that no write of a fold names reads as before. -/
theorem foldl_write_read_other {α : Type} (g : α → Nat) (f : α → Byte) (c : Nat) :
    ∀ (l : List α) (m : Memory), m.wf = true → (∀ x ∈ l, g x ≠ c) →
      (l.foldl (fun m x => m.write (g x) (f x)) m).read c = m.read c
  | [], _, _, _ => rfl
  | x :: l, m, h, hc => by
    rw [List.foldl_cons, foldl_write_read_other g f c l _ (Memory.write_wf h _ _)
      (fun y hy => hc y (List.mem_cons_of_mem _ hy)), Memory.read_write h,
      if_neg (Ne.symm (hc x (List.mem_cons_self ..)))]

/-- An address that exactly one element of a fold of writes names reads as that element's byte. -/
theorem foldl_write_read_one {α : Type} (g : α → Nat) (f : α → Byte) (x : α) :
    ∀ (l : List α) (m : Memory), m.wf = true → x ∈ l → (∀ y ∈ l, g y = g x → f y = f x) →
      (l.foldl (fun m x => m.write (g x) (f x)) m).read (g x) = f x
  | y :: l, m, h, hx, hone => by
    have hw := Memory.write_wf h (g y) (f y)
    have hone' : ∀ z ∈ l, g z = g x → f z = f x := fun z hz => hone z (List.mem_cons_of_mem _ hz)
    rw [List.foldl_cons]
    by_cases hl : ∃ z ∈ l, g z = g x
    · obtain ⟨z, hz, e⟩ := hl
      rw [← e, foldl_write_read_one g f z l _ hw hz (fun y hy e' => by rw [hone' y hy (e'.trans e), hone' z hz e]),
        hone' z hz e]
    · have hn : ∀ z ∈ l, g z ≠ g x := fun z hz e => hl ⟨z, hz, e⟩
      rw [foldl_write_read_other g f _ l _ hw hn, Memory.read_write h]
      have hy : y = x ∨ x ∈ l := by
        rcases List.mem_cons.1 hx with e | hxl
        · exact .inl e.symm
        · exact .inr hxl
      rcases hy with e | hxl
      · subst e; simp
      · exact absurd rfl (hn x hxl)

/-! ## A painted rectangle -/

theorem mem_rectPixels {w h i j : Nat} : (i, j) ∈ rectPixels w h ↔ i < w ∧ j < h := by
  simp [rectPixels, and_comm]

/-- Two positions with columns below 512 have one address only if they are one position (R1). -/
theorem pixelAddress_inj {x y x' y' : Nat} (hx : x < 512) (hx' : x' < 512)
    (h : pixelAddress x y = pixelAddress x' y') : x = x' ∧ y = y' := by
  unfold pixelAddress Config.maxColumns at h
  omega

/-- After a rectangle within the columns is painted, a pixel inside it reads as its shade. -/
theorem paint_read_inside {m : Memory} (h : m.wf = true) {r : Rect} (hr : r.x + r.w ≤ 512) (f : Nat → Nat → Nat)
    {i j : Nat} (hi : i < r.w) (hj : j < r.h) :
    (paint m r f).read (pixelAddress (r.x + i) (r.y + j)) = BitVec.ofNat 8 (f i j) := by
  refine foldl_write_read_one (fun p : Nat × Nat => pixelAddress (r.x + p.1) (r.y + p.2))
    (fun p => BitVec.ofNat 8 (f p.1 p.2)) (i, j) _ m h (mem_rectPixels.2 ⟨hi, hj⟩) ?_
  rintro ⟨a, b⟩ hab e
  obtain ⟨e1, e2⟩ := pixelAddress_inj (by have := (mem_rectPixels.1 hab).1; omega) (by omega) e
  rw [show a = i by omega, show b = j by omega]

/-- After a rectangle within the columns is painted, a pixel outside it reads as before. -/
theorem paint_read_outside {m : Memory} (h : m.wf = true) {r : Rect} (hr : r.x + r.w ≤ 512) (f : Nat → Nat → Nat)
    {x y : Nat} (hx : x < 512) (hc : r.covers x y = false) :
    (paint m r f).read (pixelAddress x y) = m.read (pixelAddress x y) := by
  refine foldl_write_read_other (fun p : Nat × Nat => pixelAddress (r.x + p.1) (r.y + p.2))
    (fun p => BitVec.ofNat 8 (f p.1 p.2)) _ _ m h ?_
  rintro ⟨a, b⟩ hab e
  have hab' := mem_rectPixels.1 hab
  obtain ⟨e1, e2⟩ := pixelAddress_inj (by omega) hx e
  simp only [Rect.covers, Bool.and_eq_false_iff, decide_eq_false_iff_not] at hc
  omega

end Sys2Proof.Machine
end

