-- ==== Sys2Proof/Laws/Records.lean ====
section
/-! SUPPORT. What the owner of each record kind leaves as it is. -/

namespace Sys2Proof.Machine

@[simp] theorem nopOwner_frame (t : Ticket) (record : List Byte) (s : State) :
    ((nopOwner t record s).after s).pending = s.pending ∧ ((nopOwner t record s).after s).dev = s.dev ∧
      ((nopOwner t record s).after s).tb = s.tb ∧ ((nopOwner t record s).after s).cins = s.cins ∧
      ((nopOwner t record s).after s).groups = s.groups ∧ ((nopOwner t record s).after s).zones = s.zones ∧
      ((nopOwner t record s).after s).tallies = s.tallies ∧ ((nopOwner t record s).after s).glyphs = s.glyphs ∧
      ((nopOwner t record s).after s).bindings = s.bindings ∧ ((nopOwner t record s).after s).slots = s.slots ∧
      ((nopOwner t record s).after s).staging = s.staging ∧ ((nopOwner t record s).after s).channels = s.channels ∧
      ((nopOwner t record s).after s).waitQueue = s.waitQueue ∧ ((nopOwner t record s).after s).rrNext = s.rrNext ∧
      ((nopOwner t record s).after s).flight = s.flight ∧ ((nopOwner t record s).after s).ports = s.ports ∧
      ((nopOwner t record s).after s).lists = s.lists ∧ ((nopOwner t record s).after s).regions = s.regions ∧
      ((nopOwner t record s).after s).ringU = s.ringU ∧ ((nopOwner t record s).after s).ringB = s.ringB ∧
      ((nopOwner t record s).after s).passOver = s.passOver ∧ ((nopOwner t record s).after s).cpo = s.cpo := by
  simp [nopOwner]

@[simp] theorem syncOwner_frame (t : Ticket) (record : List Byte) (s : State) :
    ((syncOwner t record s).after s).pending = s.pending ∧ ((syncOwner t record s).after s).dev = s.dev ∧
      ((syncOwner t record s).after s).tb = s.tb ∧ ((syncOwner t record s).after s).cins = s.cins ∧
      ((syncOwner t record s).after s).groups = s.groups ∧ ((syncOwner t record s).after s).zones = s.zones ∧
      ((syncOwner t record s).after s).tallies = s.tallies ∧ ((syncOwner t record s).after s).glyphs = s.glyphs ∧
      ((syncOwner t record s).after s).bindings = s.bindings ∧ ((syncOwner t record s).after s).slots = s.slots ∧
      ((syncOwner t record s).after s).staging = s.staging ∧
      ((syncOwner t record s).after s).channels = s.channels ∧
      ((syncOwner t record s).after s).waitQueue = s.waitQueue ∧
      ((syncOwner t record s).after s).rrNext = s.rrNext ∧ ((syncOwner t record s).after s).flight = s.flight ∧
      ((syncOwner t record s).after s).ports = s.ports ∧ ((syncOwner t record s).after s).lists = s.lists ∧
      ((syncOwner t record s).after s).regions = s.regions ∧
      ((syncOwner t record s).after s).passOver = s.passOver := by
  simp [syncOwner]

@[simp] theorem configure_frame (p : PanelId) (c : PanelConfig) (s : State) :
    (configure p c s).pending = s.pending ∧ (configure p c s).dev = s.dev ∧ (configure p c s).tb = s.tb ∧
      (configure p c s).cins = s.cins ∧ (configure p c s).groups = s.groups ∧ (configure p c s).zones = s.zones ∧
      (configure p c s).tallies = s.tallies ∧ (configure p c s).glyphs = s.glyphs ∧
      (configure p c s).bindings = s.bindings ∧ (configure p c s).slots = s.slots ∧
      (configure p c s).staging = s.staging ∧ (configure p c s).channels = s.channels ∧
      (configure p c s).waitQueue = s.waitQueue ∧ (configure p c s).rrNext = s.rrNext ∧
      (configure p c s).flight = s.flight ∧ (configure p c s).lists = s.lists ∧ (configure p c s).ringU = s.ringU ∧
      (configure p c s).ringB = s.ringB ∧ (configure p c s).passOver = s.passOver ∧
      (configure p c s).cpo = s.cpo := by
  simp [configure]

@[simp] theorem panelConfigOwner_frame (t : Ticket) (record : List Byte) (s : State) :
    ((panelConfigOwner t record s).after s).pending = s.pending ∧
      ((panelConfigOwner t record s).after s).dev = s.dev ∧ ((panelConfigOwner t record s).after s).tb = s.tb ∧
      ((panelConfigOwner t record s).after s).cins = s.cins ∧
      ((panelConfigOwner t record s).after s).groups = s.groups ∧
      ((panelConfigOwner t record s).after s).zones = s.zones ∧
      ((panelConfigOwner t record s).after s).tallies = s.tallies ∧
      ((panelConfigOwner t record s).after s).glyphs = s.glyphs ∧
      ((panelConfigOwner t record s).after s).bindings = s.bindings ∧
      ((panelConfigOwner t record s).after s).slots = s.slots ∧
      ((panelConfigOwner t record s).after s).staging = s.staging ∧
      ((panelConfigOwner t record s).after s).channels = s.channels ∧
      ((panelConfigOwner t record s).after s).waitQueue = s.waitQueue ∧
      ((panelConfigOwner t record s).after s).rrNext = s.rrNext ∧
      ((panelConfigOwner t record s).after s).flight = s.flight ∧
      ((panelConfigOwner t record s).after s).lists = s.lists ∧
      ((panelConfigOwner t record s).after s).ringU = s.ringU ∧
      ((panelConfigOwner t record s).after s).ringB = s.ringB ∧
      ((panelConfigOwner t record s).after s).passOver = s.passOver ∧
      ((panelConfigOwner t record s).after s).cpo = s.cpo := by
  unfold panelConfigOwner; try dsimp only
  repeat' split
  all_goals simp

@[simp] theorem joinStarts_frame (p : PanelId) (t : Ticket) (s : State) :
    (joinStarts p t s).pending = s.pending ∧ (joinStarts p t s).dev = s.dev ∧ (joinStarts p t s).tb = s.tb ∧
      (joinStarts p t s).cins = s.cins ∧ (joinStarts p t s).groups = s.groups ∧
      (joinStarts p t s).zones = s.zones ∧ (joinStarts p t s).tallies = s.tallies ∧
      (joinStarts p t s).glyphs = s.glyphs ∧ (joinStarts p t s).bindings = s.bindings ∧
      (joinStarts p t s).slots = s.slots ∧ (joinStarts p t s).staging = s.staging ∧
      (joinStarts p t s).channels = s.channels ∧ (joinStarts p t s).waitQueue = s.waitQueue ∧
      (joinStarts p t s).rrNext = s.rrNext ∧ (joinStarts p t s).flight = s.flight ∧
      (joinStarts p t s).lists = s.lists ∧ (joinStarts p t s).regions = s.regions ∧
      (joinStarts p t s).ringU = s.ringU ∧ (joinStarts p t s).ringB = s.ringB ∧
      (joinStarts p t s).passOver = s.passOver ∧ (joinStarts p t s).cpo = s.cpo := by
  simp [joinStarts]

@[simp] theorem panelStartOwner_frame (t : Ticket) (record : List Byte) (s : State) :
    ((panelStartOwner t record s).after s).pending = s.pending ∧
      ((panelStartOwner t record s).after s).dev = s.dev ∧ ((panelStartOwner t record s).after s).tb = s.tb ∧
      ((panelStartOwner t record s).after s).cins = s.cins ∧
      ((panelStartOwner t record s).after s).groups = s.groups ∧
      ((panelStartOwner t record s).after s).zones = s.zones ∧
      ((panelStartOwner t record s).after s).tallies = s.tallies ∧
      ((panelStartOwner t record s).after s).glyphs = s.glyphs ∧
      ((panelStartOwner t record s).after s).rrNext = s.rrNext ∧
      ((panelStartOwner t record s).after s).passOver = s.passOver := by
  unfold panelStartOwner; try dsimp only
  repeat' split
  all_goals simp

@[simp] theorem joinStops_frame (p : PanelId) (t : Ticket) (s : State) :
    (joinStops p t s).pending = s.pending ∧ (joinStops p t s).dev = s.dev ∧ (joinStops p t s).tb = s.tb ∧
      (joinStops p t s).cins = s.cins ∧ (joinStops p t s).groups = s.groups ∧ (joinStops p t s).zones = s.zones ∧
      (joinStops p t s).tallies = s.tallies ∧ (joinStops p t s).glyphs = s.glyphs ∧
      (joinStops p t s).bindings = s.bindings ∧ (joinStops p t s).slots = s.slots ∧
      (joinStops p t s).staging = s.staging ∧ (joinStops p t s).channels = s.channels ∧
      (joinStops p t s).waitQueue = s.waitQueue ∧ (joinStops p t s).rrNext = s.rrNext ∧
      (joinStops p t s).flight = s.flight ∧ (joinStops p t s).lists = s.lists ∧
      (joinStops p t s).regions = s.regions ∧ (joinStops p t s).ringU = s.ringU ∧
      (joinStops p t s).ringB = s.ringB ∧ (joinStops p t s).passOver = s.passOver ∧
      (joinStops p t s).cpo = s.cpo := by
  simp [joinStops]

@[simp] theorem panelStopOwner_frame (t : Ticket) (record : List Byte) (s : State) :
    ((panelStopOwner t record s).after s).pending = s.pending ∧ ((panelStopOwner t record s).after s).dev = s.dev ∧
      ((panelStopOwner t record s).after s).tb = s.tb ∧ ((panelStopOwner t record s).after s).cins = s.cins ∧
      ((panelStopOwner t record s).after s).groups = s.groups ∧
      ((panelStopOwner t record s).after s).zones = s.zones ∧
      ((panelStopOwner t record s).after s).tallies = s.tallies ∧
      ((panelStopOwner t record s).after s).glyphs = s.glyphs ∧
      ((panelStopOwner t record s).after s).rrNext = s.rrNext ∧
      ((panelStopOwner t record s).after s).passOver = s.passOver := by
  unfold panelStopOwner; try dsimp only
  repeat' split
  all_goals simp

@[simp] theorem setPanelState_frame (p : PanelId) (v : PanelState) (s : State) :
    (setPanelState p v s).pending = s.pending ∧ (setPanelState p v s).dev = s.dev ∧
      (setPanelState p v s).tb = s.tb ∧ (setPanelState p v s).cins = s.cins ∧
      (setPanelState p v s).groups = s.groups ∧ (setPanelState p v s).zones = s.zones ∧
      (setPanelState p v s).tallies = s.tallies ∧ (setPanelState p v s).glyphs = s.glyphs ∧
      (setPanelState p v s).bindings = s.bindings ∧ (setPanelState p v s).slots = s.slots ∧
      (setPanelState p v s).staging = s.staging ∧ (setPanelState p v s).channels = s.channels ∧
      (setPanelState p v s).waitQueue = s.waitQueue ∧ (setPanelState p v s).rrNext = s.rrNext ∧
      (setPanelState p v s).flight = s.flight ∧ (setPanelState p v s).lists = s.lists ∧
      (setPanelState p v s).regions = s.regions ∧ (setPanelState p v s).ringU = s.ringU ∧
      (setPanelState p v s).ringB = s.ringB ∧ (setPanelState p v s).passOver = s.passOver ∧
      (setPanelState p v s).cpo = s.cpo := by
  simp [setPanelState]

@[simp] theorem panelHoldOwner_frame (t : Ticket) (record : List Byte) (s : State) :
    ((panelHoldOwner t record s).after s).pending = s.pending ∧ ((panelHoldOwner t record s).after s).dev = s.dev ∧
      ((panelHoldOwner t record s).after s).tb = s.tb ∧ ((panelHoldOwner t record s).after s).cins = s.cins ∧
      ((panelHoldOwner t record s).after s).groups = s.groups ∧
      ((panelHoldOwner t record s).after s).zones = s.zones ∧
      ((panelHoldOwner t record s).after s).tallies = s.tallies ∧
      ((panelHoldOwner t record s).after s).glyphs = s.glyphs ∧
      ((panelHoldOwner t record s).after s).bindings = s.bindings ∧
      ((panelHoldOwner t record s).after s).slots = s.slots ∧
      ((panelHoldOwner t record s).after s).staging = s.staging ∧
      ((panelHoldOwner t record s).after s).channels = s.channels ∧
      ((panelHoldOwner t record s).after s).waitQueue = s.waitQueue ∧
      ((panelHoldOwner t record s).after s).rrNext = s.rrNext ∧
      ((panelHoldOwner t record s).after s).flight = s.flight ∧
      ((panelHoldOwner t record s).after s).lists = s.lists ∧
      ((panelHoldOwner t record s).after s).regions = s.regions ∧
      ((panelHoldOwner t record s).after s).ringU = s.ringU ∧
      ((panelHoldOwner t record s).after s).ringB = s.ringB ∧
      ((panelHoldOwner t record s).after s).passOver = s.passOver ∧
      ((panelHoldOwner t record s).after s).cpo = s.cpo := by
  unfold panelHoldOwner; try dsimp only
  repeat' split
  all_goals simp

@[simp] theorem panelWindowOwner_frame (t : Ticket) (record : List Byte) (s : State) :
    ((panelWindowOwner t record s).after s).pending = s.pending ∧
      ((panelWindowOwner t record s).after s).dev = s.dev ∧ ((panelWindowOwner t record s).after s).tb = s.tb ∧
      ((panelWindowOwner t record s).after s).cins = s.cins ∧
      ((panelWindowOwner t record s).after s).groups = s.groups ∧
      ((panelWindowOwner t record s).after s).zones = s.zones ∧
      ((panelWindowOwner t record s).after s).tallies = s.tallies ∧
      ((panelWindowOwner t record s).after s).glyphs = s.glyphs ∧
      ((panelWindowOwner t record s).after s).bindings = s.bindings ∧
      ((panelWindowOwner t record s).after s).slots = s.slots ∧
      ((panelWindowOwner t record s).after s).staging = s.staging ∧
      ((panelWindowOwner t record s).after s).channels = s.channels ∧
      ((panelWindowOwner t record s).after s).waitQueue = s.waitQueue ∧
      ((panelWindowOwner t record s).after s).rrNext = s.rrNext ∧
      ((panelWindowOwner t record s).after s).flight = s.flight ∧
      ((panelWindowOwner t record s).after s).lists = s.lists ∧
      ((panelWindowOwner t record s).after s).regions = s.regions ∧
      ((panelWindowOwner t record s).after s).ringU = s.ringU ∧
      ((panelWindowOwner t record s).after s).ringB = s.ringB ∧
      ((panelWindowOwner t record s).after s).passOver = s.passOver ∧
      ((panelWindowOwner t record s).after s).cpo = s.cpo := by
  unfold panelWindowOwner; try dsimp only
  repeat' split
  all_goals simp

@[simp] theorem append_frame (p : PanelId) (e : Entry) (s : State) :
    (append p e s).pending = s.pending ∧ (append p e s).dev = s.dev ∧ (append p e s).tb = s.tb ∧
      (append p e s).cins = s.cins ∧ (append p e s).groups = s.groups ∧ (append p e s).zones = s.zones ∧
      (append p e s).tallies = s.tallies ∧ (append p e s).glyphs = s.glyphs ∧
      (append p e s).bindings = s.bindings ∧ (append p e s).slots = s.slots ∧ (append p e s).staging = s.staging ∧
      (append p e s).rrNext = s.rrNext ∧ (append p e s).flight = s.flight ∧ (append p e s).ports = s.ports ∧
      (append p e s).regions = s.regions ∧ (append p e s).ringU = s.ringU ∧ (append p e s).ringB = s.ringB ∧
      (append p e s).passOver = s.passOver ∧ (append p e s).cpo = s.cpo := by
  unfold append; try dsimp only
  repeat' split
  all_goals simp

@[simp] theorem entryOwner_frame (kind : EntryKind) (t : Ticket) (record : List Byte) (s : State) :
    ((entryOwner kind t record s).after s).pending = s.pending ∧
      ((entryOwner kind t record s).after s).dev = s.dev ∧ ((entryOwner kind t record s).after s).tb = s.tb ∧
      ((entryOwner kind t record s).after s).cins = s.cins ∧
      ((entryOwner kind t record s).after s).groups = s.groups ∧
      ((entryOwner kind t record s).after s).zones = s.zones ∧
      ((entryOwner kind t record s).after s).tallies = s.tallies ∧
      ((entryOwner kind t record s).after s).glyphs = s.glyphs ∧
      ((entryOwner kind t record s).after s).bindings = s.bindings ∧
      ((entryOwner kind t record s).after s).staging = s.staging ∧
      ((entryOwner kind t record s).after s).rrNext = s.rrNext ∧
      ((entryOwner kind t record s).after s).flight = s.flight ∧
      ((entryOwner kind t record s).after s).ports = s.ports ∧
      ((entryOwner kind t record s).after s).regions = s.regions ∧
      ((entryOwner kind t record s).after s).ringU = s.ringU ∧
      ((entryOwner kind t record s).after s).ringB = s.ringB ∧
      ((entryOwner kind t record s).after s).passOver = s.passOver ∧
      ((entryOwner kind t record s).after s).cpo = s.cpo := by
  unfold entryOwner; dsimp only
  repeat' split
  all_goals try simp
  all_goals (rename_i h; obtain ⟨-, -, rfl⟩ := allocate_some h; simp)

@[simp] theorem cancelEntry_frame (tag : Word) (p : PanelId) (s : State) (e : Entry) :
    (cancelEntry tag p s e).pending = s.pending ∧ (cancelEntry tag p s e).dev = s.dev ∧
      (cancelEntry tag p s e).tb = s.tb ∧ (cancelEntry tag p s e).cins = s.cins ∧
      (cancelEntry tag p s e).groups = s.groups ∧ (cancelEntry tag p s e).zones = s.zones ∧
      (cancelEntry tag p s e).tallies = s.tallies ∧ (cancelEntry tag p s e).glyphs = s.glyphs ∧
      (cancelEntry tag p s e).bindings = s.bindings ∧ (cancelEntry tag p s e).staging = s.staging ∧
      (cancelEntry tag p s e).rrNext = s.rrNext ∧ (cancelEntry tag p s e).ports = s.ports ∧
      (cancelEntry tag p s e).regions = s.regions ∧ (cancelEntry tag p s e).passOver = s.passOver := by
  unfold cancelEntry; try dsimp only
  repeat' split
  all_goals simp

@[simp] theorem cancelPanel_frame (tag : Word) (s : State) (p : PanelId) :
    (cancelPanel tag s p).pending = s.pending ∧ (cancelPanel tag s p).dev = s.dev ∧
      (cancelPanel tag s p).tb = s.tb ∧ (cancelPanel tag s p).cins = s.cins ∧
      (cancelPanel tag s p).groups = s.groups ∧ (cancelPanel tag s p).zones = s.zones ∧
      (cancelPanel tag s p).tallies = s.tallies ∧ (cancelPanel tag s p).glyphs = s.glyphs ∧
      (cancelPanel tag s p).bindings = s.bindings ∧ (cancelPanel tag s p).staging = s.staging ∧
      (cancelPanel tag s p).rrNext = s.rrNext ∧ (cancelPanel tag s p).ports = s.ports ∧
      (cancelPanel tag s p).regions = s.regions ∧ (cancelPanel tag s p).passOver = s.passOver := by
  unfold cancelPanel
  refine ⟨?_, ?_, ?_, ?_, ?_, ?_, ?_, ?_, ?_, ?_, ?_, ?_, ?_, ?_⟩ <;> exact foldl_keeps (by intros; simp) _ _

@[simp] theorem cancelLoad_frame (tag : Word) (s : State) (g : Fin 4) :
    (cancelLoad tag s g).pending = s.pending ∧ (cancelLoad tag s g).dev = s.dev ∧ (cancelLoad tag s g).tb = s.tb ∧
      (cancelLoad tag s g).cins = s.cins ∧ (cancelLoad tag s g).groups = s.groups ∧
      (cancelLoad tag s g).zones = s.zones ∧ (cancelLoad tag s g).tallies = s.tallies ∧
      (cancelLoad tag s g).bindings = s.bindings ∧ (cancelLoad tag s g).staging = s.staging ∧
      (cancelLoad tag s g).rrNext = s.rrNext ∧ (cancelLoad tag s g).ports = s.ports ∧
      (cancelLoad tag s g).regions = s.regions ∧ (cancelLoad tag s g).passOver = s.passOver := by
  unfold cancelLoad; try dsimp only
  repeat' split
  all_goals simp

@[simp] theorem cancelWork_frame (tag : Word) (scope : Nat) (s : State) :
    (cancelWork tag scope s).pending = s.pending ∧ (cancelWork tag scope s).dev = s.dev ∧
      (cancelWork tag scope s).tb = s.tb ∧ (cancelWork tag scope s).cins = s.cins ∧
      (cancelWork tag scope s).groups = s.groups ∧ (cancelWork tag scope s).zones = s.zones ∧
      (cancelWork tag scope s).tallies = s.tallies ∧ (cancelWork tag scope s).bindings = s.bindings ∧
      (cancelWork tag scope s).staging = s.staging ∧ (cancelWork tag scope s).rrNext = s.rrNext ∧
      (cancelWork tag scope s).ports = s.ports ∧ (cancelWork tag scope s).regions = s.regions ∧
      (cancelWork tag scope s).passOver = s.passOver := by
  unfold cancelWork; dsimp only
  split
  · refine ⟨?_, ?_, ?_, ?_, ?_, ?_, ?_, ?_, ?_, ?_, ?_, ?_, ?_⟩ <;>
      exact (foldl_keeps (by intros; simp) _ _).trans (foldl_keeps (by intros; simp) _ _)
  · refine ⟨?_, ?_, ?_, ?_, ?_, ?_, ?_, ?_, ?_, ?_, ?_, ?_, ?_⟩ <;> exact foldl_keeps (by intros; simp) _ _

@[simp] theorem cancelOwner_frame (t : Ticket) (record : List Byte) (s : State) :
    ((cancelOwner t record s).after s).pending = s.pending ∧ ((cancelOwner t record s).after s).dev = s.dev ∧
      ((cancelOwner t record s).after s).tb = s.tb ∧ ((cancelOwner t record s).after s).cins = s.cins ∧
      ((cancelOwner t record s).after s).groups = s.groups ∧ ((cancelOwner t record s).after s).zones = s.zones ∧
      ((cancelOwner t record s).after s).tallies = s.tallies ∧
      ((cancelOwner t record s).after s).bindings = s.bindings ∧
      ((cancelOwner t record s).after s).staging = s.staging ∧
      ((cancelOwner t record s).after s).rrNext = s.rrNext ∧ ((cancelOwner t record s).after s).ports = s.ports ∧
      ((cancelOwner t record s).after s).regions = s.regions ∧
      ((cancelOwner t record s).after s).passOver = s.passOver := by
  unfold cancelOwner; try dsimp only
  repeat' split
  all_goals simp

@[simp] theorem beginLoad_frame (g : Fin 4) (t : Ticket) (b : LoadBody) (l : List (Fin 24)) (s : State) :
    (beginLoad g t b l s).pending = s.pending ∧ (beginLoad g t b l s).dev = s.dev ∧
      (beginLoad g t b l s).tb = s.tb ∧ (beginLoad g t b l s).cins = s.cins ∧
      (beginLoad g t b l s).groups = s.groups ∧ (beginLoad g t b l s).zones = s.zones ∧
      (beginLoad g t b l s).tallies = s.tallies ∧ (beginLoad g t b l s).bindings = s.bindings ∧
      (beginLoad g t b l s).slots = s.slots ∧ (beginLoad g t b l s).staging = s.staging ∧
      (beginLoad g t b l s).rrNext = s.rrNext ∧ (beginLoad g t b l s).flight = s.flight ∧
      (beginLoad g t b l s).ports = s.ports ∧ (beginLoad g t b l s).regions = s.regions ∧
      (beginLoad g t b l s).ringU = s.ringU ∧ (beginLoad g t b l s).ringB = s.ringB ∧
      (beginLoad g t b l s).passOver = s.passOver ∧ (beginLoad g t b l s).cpo = s.cpo := by
  simp [beginLoad]

@[simp] theorem glyphLoadOwner_frame (t : Ticket) (record : List Byte) (s : State) :
    ((glyphLoadOwner t record s).after s).pending = s.pending ∧ ((glyphLoadOwner t record s).after s).dev = s.dev ∧
      ((glyphLoadOwner t record s).after s).tb = s.tb ∧ ((glyphLoadOwner t record s).after s).cins = s.cins ∧
      ((glyphLoadOwner t record s).after s).groups = s.groups ∧
      ((glyphLoadOwner t record s).after s).zones = s.zones ∧
      ((glyphLoadOwner t record s).after s).tallies = s.tallies ∧
      ((glyphLoadOwner t record s).after s).bindings = s.bindings ∧
      ((glyphLoadOwner t record s).after s).staging = s.staging ∧
      ((glyphLoadOwner t record s).after s).rrNext = s.rrNext ∧
      ((glyphLoadOwner t record s).after s).flight = s.flight ∧
      ((glyphLoadOwner t record s).after s).ports = s.ports ∧
      ((glyphLoadOwner t record s).after s).regions = s.regions ∧
      ((glyphLoadOwner t record s).after s).ringU = s.ringU ∧
      ((glyphLoadOwner t record s).after s).ringB = s.ringB ∧
      ((glyphLoadOwner t record s).after s).passOver = s.passOver ∧
      ((glyphLoadOwner t record s).after s).cpo = s.cpo := by
  unfold glyphLoadOwner; dsimp only
  repeat' split
  all_goals try simp
  all_goals (rename_i h; obtain ⟨-, -, rfl⟩ := allocate_some h; simp)

@[simp] theorem bindPlaced_frame (p : PanelId) (c : PanelConfig) (t : TallyId) (k : Fin 2) (v : Binding) (s : State) :
    ((bindPlaced p c t k v s).after s).pending = s.pending ∧ ((bindPlaced p c t k v s).after s).dev = s.dev ∧
      ((bindPlaced p c t k v s).after s).tb = s.tb ∧ ((bindPlaced p c t k v s).after s).cins = s.cins ∧
      ((bindPlaced p c t k v s).after s).groups = s.groups ∧ ((bindPlaced p c t k v s).after s).zones = s.zones ∧
      ((bindPlaced p c t k v s).after s).tallies = s.tallies ∧
      ((bindPlaced p c t k v s).after s).glyphs = s.glyphs ∧ ((bindPlaced p c t k v s).after s).slots = s.slots ∧
      ((bindPlaced p c t k v s).after s).staging = s.staging ∧
      ((bindPlaced p c t k v s).after s).channels = s.channels ∧
      ((bindPlaced p c t k v s).after s).waitQueue = s.waitQueue ∧
      ((bindPlaced p c t k v s).after s).rrNext = s.rrNext ∧ ((bindPlaced p c t k v s).after s).flight = s.flight ∧
      ((bindPlaced p c t k v s).after s).ports = s.ports ∧ ((bindPlaced p c t k v s).after s).lists = s.lists ∧
      ((bindPlaced p c t k v s).after s).regions = s.regions ∧ ((bindPlaced p c t k v s).after s).ringU = s.ringU ∧
      ((bindPlaced p c t k v s).after s).ringB = s.ringB ∧
      ((bindPlaced p c t k v s).after s).passOver = s.passOver ∧
      ((bindPlaced p c t k v s).after s).cpo = s.cpo := by
  unfold bindPlaced; try dsimp only
  repeat' split
  all_goals simp

@[simp] theorem tallyBindOwner_frame (t : Ticket) (record : List Byte) (s : State) :
    ((tallyBindOwner t record s).after s).pending = s.pending ∧ ((tallyBindOwner t record s).after s).dev = s.dev ∧
      ((tallyBindOwner t record s).after s).tb = s.tb ∧ ((tallyBindOwner t record s).after s).cins = s.cins ∧
      ((tallyBindOwner t record s).after s).groups = s.groups ∧
      ((tallyBindOwner t record s).after s).zones = s.zones ∧
      ((tallyBindOwner t record s).after s).tallies = s.tallies ∧
      ((tallyBindOwner t record s).after s).glyphs = s.glyphs ∧
      ((tallyBindOwner t record s).after s).slots = s.slots ∧
      ((tallyBindOwner t record s).after s).staging = s.staging ∧
      ((tallyBindOwner t record s).after s).channels = s.channels ∧
      ((tallyBindOwner t record s).after s).waitQueue = s.waitQueue ∧
      ((tallyBindOwner t record s).after s).rrNext = s.rrNext ∧
      ((tallyBindOwner t record s).after s).flight = s.flight ∧
      ((tallyBindOwner t record s).after s).ports = s.ports ∧
      ((tallyBindOwner t record s).after s).lists = s.lists ∧
      ((tallyBindOwner t record s).after s).regions = s.regions ∧
      ((tallyBindOwner t record s).after s).ringU = s.ringU ∧
      ((tallyBindOwner t record s).after s).ringB = s.ringB ∧
      ((tallyBindOwner t record s).after s).passOver = s.passOver ∧
      ((tallyBindOwner t record s).after s).cpo = s.cpo := by
  unfold tallyBindOwner; try dsimp only
  repeat' split
  all_goals simp

@[simp] theorem tallyUnbindOwner_frame (t : Ticket) (record : List Byte) (s : State) :
    ((tallyUnbindOwner t record s).after s).pending = s.pending ∧
      ((tallyUnbindOwner t record s).after s).dev = s.dev ∧ ((tallyUnbindOwner t record s).after s).tb = s.tb ∧
      ((tallyUnbindOwner t record s).after s).cins = s.cins ∧
      ((tallyUnbindOwner t record s).after s).groups = s.groups ∧
      ((tallyUnbindOwner t record s).after s).zones = s.zones ∧
      ((tallyUnbindOwner t record s).after s).tallies = s.tallies ∧
      ((tallyUnbindOwner t record s).after s).glyphs = s.glyphs ∧
      ((tallyUnbindOwner t record s).after s).slots = s.slots ∧
      ((tallyUnbindOwner t record s).after s).staging = s.staging ∧
      ((tallyUnbindOwner t record s).after s).channels = s.channels ∧
      ((tallyUnbindOwner t record s).after s).waitQueue = s.waitQueue ∧
      ((tallyUnbindOwner t record s).after s).rrNext = s.rrNext ∧
      ((tallyUnbindOwner t record s).after s).flight = s.flight ∧
      ((tallyUnbindOwner t record s).after s).ports = s.ports ∧
      ((tallyUnbindOwner t record s).after s).lists = s.lists ∧
      ((tallyUnbindOwner t record s).after s).regions = s.regions ∧
      ((tallyUnbindOwner t record s).after s).ringU = s.ringU ∧
      ((tallyUnbindOwner t record s).after s).ringB = s.ringB ∧
      ((tallyUnbindOwner t record s).after s).passOver = s.passOver ∧
      ((tallyUnbindOwner t record s).after s).cpo = s.cpo := by
  unfold tallyUnbindOwner; try dsimp only
  repeat' split
  all_goals simp

@[simp] theorem tallyDefineOwner_frame (t : Ticket) (record : List Byte) (s : State) :
    ((tallyDefineOwner t record s).after s).pending = s.pending ∧
      ((tallyDefineOwner t record s).after s).dev = s.dev ∧ ((tallyDefineOwner t record s).after s).tb = s.tb ∧
      ((tallyDefineOwner t record s).after s).cins = s.cins ∧
      ((tallyDefineOwner t record s).after s).groups = s.groups ∧
      ((tallyDefineOwner t record s).after s).zones = s.zones ∧
      ((tallyDefineOwner t record s).after s).glyphs = s.glyphs ∧
      ((tallyDefineOwner t record s).after s).bindings = s.bindings ∧
      ((tallyDefineOwner t record s).after s).slots = s.slots ∧
      ((tallyDefineOwner t record s).after s).staging = s.staging ∧
      ((tallyDefineOwner t record s).after s).channels = s.channels ∧
      ((tallyDefineOwner t record s).after s).waitQueue = s.waitQueue ∧
      ((tallyDefineOwner t record s).after s).rrNext = s.rrNext ∧
      ((tallyDefineOwner t record s).after s).flight = s.flight ∧
      ((tallyDefineOwner t record s).after s).ports = s.ports ∧
      ((tallyDefineOwner t record s).after s).lists = s.lists ∧
      ((tallyDefineOwner t record s).after s).regions = s.regions ∧
      ((tallyDefineOwner t record s).after s).ringU = s.ringU ∧
      ((tallyDefineOwner t record s).after s).ringB = s.ringB ∧
      ((tallyDefineOwner t record s).after s).passOver = s.passOver ∧
      ((tallyDefineOwner t record s).after s).cpo = s.cpo := by
  unfold tallyDefineOwner; try dsimp only
  repeat' split
  all_goals simp

@[simp] theorem setRun_frame (t : TallyId) (v : TallyRun) (s : State) :
    (setRun t v s).pending = s.pending ∧ (setRun t v s).dev = s.dev ∧ (setRun t v s).tb = s.tb ∧
      (setRun t v s).cins = s.cins ∧ (setRun t v s).groups = s.groups ∧ (setRun t v s).zones = s.zones ∧
      (setRun t v s).glyphs = s.glyphs ∧ (setRun t v s).bindings = s.bindings ∧ (setRun t v s).slots = s.slots ∧
      (setRun t v s).staging = s.staging ∧ (setRun t v s).channels = s.channels ∧
      (setRun t v s).waitQueue = s.waitQueue ∧ (setRun t v s).rrNext = s.rrNext ∧
      (setRun t v s).flight = s.flight ∧ (setRun t v s).ports = s.ports ∧ (setRun t v s).lists = s.lists ∧
      (setRun t v s).regions = s.regions ∧ (setRun t v s).ringU = s.ringU ∧ (setRun t v s).ringB = s.ringB ∧
      (setRun t v s).passOver = s.passOver ∧ (setRun t v s).cpo = s.cpo := by
  simp [setRun]

@[simp] theorem okWithValue_after (t : TallyId) (a : Nat) (s s' : State) : (okWithValue t a s').after s = s' := rfl

@[simp] theorem setOperation_frame (t : TallyId) (d : TallyDef) (w : Nat) (s : State) :
    ((setOperation t d w s).after s).pending = s.pending ∧ ((setOperation t d w s).after s).dev = s.dev ∧
      ((setOperation t d w s).after s).tb = s.tb ∧ ((setOperation t d w s).after s).cins = s.cins ∧
      ((setOperation t d w s).after s).groups = s.groups ∧ ((setOperation t d w s).after s).zones = s.zones ∧
      ((setOperation t d w s).after s).glyphs = s.glyphs ∧ ((setOperation t d w s).after s).slots = s.slots ∧
      ((setOperation t d w s).after s).staging = s.staging ∧
      ((setOperation t d w s).after s).channels = s.channels ∧
      ((setOperation t d w s).after s).waitQueue = s.waitQueue ∧
      ((setOperation t d w s).after s).rrNext = s.rrNext ∧ ((setOperation t d w s).after s).flight = s.flight ∧
      ((setOperation t d w s).after s).ports = s.ports ∧ ((setOperation t d w s).after s).lists = s.lists ∧
      ((setOperation t d w s).after s).regions = s.regions ∧ ((setOperation t d w s).after s).ringU = s.ringU ∧
      ((setOperation t d w s).after s).ringB = s.ringB ∧ ((setOperation t d w s).after s).passOver = s.passOver ∧
      ((setOperation t d w s).after s).cpo = s.cpo := by
  unfold setOperation; try dsimp only
  repeat' split
  all_goals simp

@[simp] theorem addOperation_frame (t : TallyId) (n : Nat) (s : State) :
    ((addOperation t n s).after s).pending = s.pending ∧ ((addOperation t n s).after s).dev = s.dev ∧
      ((addOperation t n s).after s).tb = s.tb ∧ ((addOperation t n s).after s).cins = s.cins ∧
      ((addOperation t n s).after s).groups = s.groups ∧ ((addOperation t n s).after s).zones = s.zones ∧
      ((addOperation t n s).after s).glyphs = s.glyphs ∧ ((addOperation t n s).after s).slots = s.slots ∧
      ((addOperation t n s).after s).staging = s.staging ∧ ((addOperation t n s).after s).channels = s.channels ∧
      ((addOperation t n s).after s).waitQueue = s.waitQueue ∧ ((addOperation t n s).after s).rrNext = s.rrNext ∧
      ((addOperation t n s).after s).flight = s.flight ∧ ((addOperation t n s).after s).ports = s.ports ∧
      ((addOperation t n s).after s).lists = s.lists ∧ ((addOperation t n s).after s).regions = s.regions ∧
      ((addOperation t n s).after s).ringU = s.ringU ∧ ((addOperation t n s).after s).ringB = s.ringB ∧
      ((addOperation t n s).after s).passOver = s.passOver ∧ ((addOperation t n s).after s).cpo = s.cpo := by
  unfold addOperation; try dsimp only
  repeat' split
  all_goals simp

@[simp] theorem controlDefined_frame (t : TallyId) (d : TallyDef) (op : TallyOperation) (b : ControlBody) (s : State) :
    ((controlDefined t d op b s).after s).pending = s.pending ∧ ((controlDefined t d op b s).after s).dev = s.dev ∧
      ((controlDefined t d op b s).after s).tb = s.tb ∧ ((controlDefined t d op b s).after s).cins = s.cins ∧
      ((controlDefined t d op b s).after s).groups = s.groups ∧
      ((controlDefined t d op b s).after s).zones = s.zones ∧
      ((controlDefined t d op b s).after s).glyphs = s.glyphs ∧
      ((controlDefined t d op b s).after s).slots = s.slots ∧
      ((controlDefined t d op b s).after s).staging = s.staging ∧
      ((controlDefined t d op b s).after s).channels = s.channels ∧
      ((controlDefined t d op b s).after s).waitQueue = s.waitQueue ∧
      ((controlDefined t d op b s).after s).rrNext = s.rrNext ∧
      ((controlDefined t d op b s).after s).flight = s.flight ∧
      ((controlDefined t d op b s).after s).ports = s.ports ∧
      ((controlDefined t d op b s).after s).lists = s.lists ∧
      ((controlDefined t d op b s).after s).regions = s.regions ∧
      ((controlDefined t d op b s).after s).ringU = s.ringU ∧
      ((controlDefined t d op b s).after s).ringB = s.ringB ∧
      ((controlDefined t d op b s).after s).passOver = s.passOver ∧
      ((controlDefined t d op b s).after s).cpo = s.cpo := by
  unfold controlDefined; try dsimp only
  repeat' split
  all_goals simp

@[simp] theorem tallyControlOwner_frame (t : Ticket) (record : List Byte) (s : State) :
    ((tallyControlOwner t record s).after s).pending = s.pending ∧
      ((tallyControlOwner t record s).after s).dev = s.dev ∧ ((tallyControlOwner t record s).after s).tb = s.tb ∧
      ((tallyControlOwner t record s).after s).cins = s.cins ∧
      ((tallyControlOwner t record s).after s).groups = s.groups ∧
      ((tallyControlOwner t record s).after s).zones = s.zones ∧
      ((tallyControlOwner t record s).after s).glyphs = s.glyphs ∧
      ((tallyControlOwner t record s).after s).slots = s.slots ∧
      ((tallyControlOwner t record s).after s).staging = s.staging ∧
      ((tallyControlOwner t record s).after s).channels = s.channels ∧
      ((tallyControlOwner t record s).after s).waitQueue = s.waitQueue ∧
      ((tallyControlOwner t record s).after s).rrNext = s.rrNext ∧
      ((tallyControlOwner t record s).after s).flight = s.flight ∧
      ((tallyControlOwner t record s).after s).ports = s.ports ∧
      ((tallyControlOwner t record s).after s).lists = s.lists ∧
      ((tallyControlOwner t record s).after s).regions = s.regions ∧
      ((tallyControlOwner t record s).after s).ringU = s.ringU ∧
      ((tallyControlOwner t record s).after s).ringB = s.ringB ∧
      ((tallyControlOwner t record s).after s).passOver = s.passOver ∧
      ((tallyControlOwner t record s).after s).cpo = s.cpo := by
  unfold tallyControlOwner; try dsimp only
  repeat' split
  all_goals simp

@[simp] theorem tallyReadOwner_frame (t : Ticket) (record : List Byte) (s : State) :
    ((tallyReadOwner t record s).after s).pending = s.pending ∧ ((tallyReadOwner t record s).after s).dev = s.dev ∧
      ((tallyReadOwner t record s).after s).tb = s.tb ∧ ((tallyReadOwner t record s).after s).cins = s.cins ∧
      ((tallyReadOwner t record s).after s).groups = s.groups ∧
      ((tallyReadOwner t record s).after s).zones = s.zones ∧
      ((tallyReadOwner t record s).after s).tallies = s.tallies ∧
      ((tallyReadOwner t record s).after s).glyphs = s.glyphs ∧
      ((tallyReadOwner t record s).after s).bindings = s.bindings ∧
      ((tallyReadOwner t record s).after s).slots = s.slots ∧
      ((tallyReadOwner t record s).after s).staging = s.staging ∧
      ((tallyReadOwner t record s).after s).channels = s.channels ∧
      ((tallyReadOwner t record s).after s).waitQueue = s.waitQueue ∧
      ((tallyReadOwner t record s).after s).rrNext = s.rrNext ∧
      ((tallyReadOwner t record s).after s).flight = s.flight ∧
      ((tallyReadOwner t record s).after s).ports = s.ports ∧
      ((tallyReadOwner t record s).after s).lists = s.lists ∧
      ((tallyReadOwner t record s).after s).regions = s.regions ∧
      ((tallyReadOwner t record s).after s).ringU = s.ringU ∧
      ((tallyReadOwner t record s).after s).ringB = s.ringB ∧
      ((tallyReadOwner t record s).after s).passOver = s.passOver ∧
      ((tallyReadOwner t record s).after s).cpo = s.cpo := by
  unfold tallyReadOwner; try dsimp only
  repeat' split
  all_goals simp

@[simp] theorem blinkGroupOwner_frame (t : Ticket) (record : List Byte) (s : State) :
    ((blinkGroupOwner t record s).after s).pending = s.pending ∧
      ((blinkGroupOwner t record s).after s).dev = s.dev ∧ ((blinkGroupOwner t record s).after s).tb = s.tb ∧
      ((blinkGroupOwner t record s).after s).cins = s.cins ∧
      ((blinkGroupOwner t record s).after s).zones = s.zones ∧
      ((blinkGroupOwner t record s).after s).tallies = s.tallies ∧
      ((blinkGroupOwner t record s).after s).glyphs = s.glyphs ∧
      ((blinkGroupOwner t record s).after s).bindings = s.bindings ∧
      ((blinkGroupOwner t record s).after s).slots = s.slots ∧
      ((blinkGroupOwner t record s).after s).staging = s.staging ∧
      ((blinkGroupOwner t record s).after s).channels = s.channels ∧
      ((blinkGroupOwner t record s).after s).waitQueue = s.waitQueue ∧
      ((blinkGroupOwner t record s).after s).rrNext = s.rrNext ∧
      ((blinkGroupOwner t record s).after s).flight = s.flight ∧
      ((blinkGroupOwner t record s).after s).ports = s.ports ∧
      ((blinkGroupOwner t record s).after s).lists = s.lists ∧
      ((blinkGroupOwner t record s).after s).regions = s.regions ∧
      ((blinkGroupOwner t record s).after s).ringU = s.ringU ∧
      ((blinkGroupOwner t record s).after s).ringB = s.ringB ∧
      ((blinkGroupOwner t record s).after s).passOver = s.passOver ∧
      ((blinkGroupOwner t record s).after s).cpo = s.cpo := by
  unfold blinkGroupOwner; try dsimp only
  repeat' split
  all_goals simp

@[simp] theorem zoneAnswer_after (z : Fin 16) (v : Option Zone) (s : State) :
    (zoneAnswer z v s).after s = s.setZone z v := rfl

@[simp] theorem zoneSet_frame (z : Fin 16) (record : List Byte) (s : State) :
    ((zoneSet z record s).after s).pending = s.pending ∧ ((zoneSet z record s).after s).dev = s.dev ∧
      ((zoneSet z record s).after s).tb = s.tb ∧ ((zoneSet z record s).after s).cins = s.cins ∧
      ((zoneSet z record s).after s).groups = s.groups ∧ ((zoneSet z record s).after s).tallies = s.tallies ∧
      ((zoneSet z record s).after s).glyphs = s.glyphs ∧ ((zoneSet z record s).after s).bindings = s.bindings ∧
      ((zoneSet z record s).after s).slots = s.slots ∧ ((zoneSet z record s).after s).staging = s.staging ∧
      ((zoneSet z record s).after s).channels = s.channels ∧
      ((zoneSet z record s).after s).waitQueue = s.waitQueue ∧ ((zoneSet z record s).after s).rrNext = s.rrNext ∧
      ((zoneSet z record s).after s).flight = s.flight ∧ ((zoneSet z record s).after s).ports = s.ports ∧
      ((zoneSet z record s).after s).lists = s.lists ∧ ((zoneSet z record s).after s).regions = s.regions ∧
      ((zoneSet z record s).after s).ringU = s.ringU ∧ ((zoneSet z record s).after s).ringB = s.ringB ∧
      ((zoneSet z record s).after s).passOver = s.passOver ∧ ((zoneSet z record s).after s).cpo = s.cpo := by
  unfold zoneSet; try dsimp only
  repeat' split
  all_goals simp

@[simp] theorem blinkZoneOwner_frame (t : Ticket) (record : List Byte) (s : State) :
    ((blinkZoneOwner t record s).after s).pending = s.pending ∧ ((blinkZoneOwner t record s).after s).dev = s.dev ∧
      ((blinkZoneOwner t record s).after s).tb = s.tb ∧ ((blinkZoneOwner t record s).after s).cins = s.cins ∧
      ((blinkZoneOwner t record s).after s).groups = s.groups ∧
      ((blinkZoneOwner t record s).after s).tallies = s.tallies ∧
      ((blinkZoneOwner t record s).after s).glyphs = s.glyphs ∧
      ((blinkZoneOwner t record s).after s).bindings = s.bindings ∧
      ((blinkZoneOwner t record s).after s).slots = s.slots ∧
      ((blinkZoneOwner t record s).after s).staging = s.staging ∧
      ((blinkZoneOwner t record s).after s).channels = s.channels ∧
      ((blinkZoneOwner t record s).after s).waitQueue = s.waitQueue ∧
      ((blinkZoneOwner t record s).after s).rrNext = s.rrNext ∧
      ((blinkZoneOwner t record s).after s).flight = s.flight ∧
      ((blinkZoneOwner t record s).after s).ports = s.ports ∧
      ((blinkZoneOwner t record s).after s).lists = s.lists ∧
      ((blinkZoneOwner t record s).after s).regions = s.regions ∧
      ((blinkZoneOwner t record s).after s).ringU = s.ringU ∧
      ((blinkZoneOwner t record s).after s).ringB = s.ringB ∧
      ((blinkZoneOwner t record s).after s).passOver = s.passOver ∧
      ((blinkZoneOwner t record s).after s).cpo = s.cpo := by
  unfold blinkZoneOwner; try dsimp only
  repeat' split
  all_goals simp

@[simp] theorem countInputOwner_frame (t : Ticket) (record : List Byte) (s : State) :
    ((countInputOwner t record s).after s).pending = s.pending ∧
      ((countInputOwner t record s).after s).dev = s.dev ∧ ((countInputOwner t record s).after s).tb = s.tb ∧
      ((countInputOwner t record s).after s).groups = s.groups ∧
      ((countInputOwner t record s).after s).zones = s.zones ∧
      ((countInputOwner t record s).after s).glyphs = s.glyphs ∧
      ((countInputOwner t record s).after s).slots = s.slots ∧
      ((countInputOwner t record s).after s).staging = s.staging ∧
      ((countInputOwner t record s).after s).channels = s.channels ∧
      ((countInputOwner t record s).after s).waitQueue = s.waitQueue ∧
      ((countInputOwner t record s).after s).rrNext = s.rrNext ∧
      ((countInputOwner t record s).after s).flight = s.flight ∧
      ((countInputOwner t record s).after s).ports = s.ports ∧
      ((countInputOwner t record s).after s).lists = s.lists ∧
      ((countInputOwner t record s).after s).regions = s.regions ∧
      ((countInputOwner t record s).after s).ringU = s.ringU ∧
      ((countInputOwner t record s).after s).ringB = s.ringB ∧
      ((countInputOwner t record s).after s).passOver = s.passOver ∧
      ((countInputOwner t record s).after s).cpo = s.cpo := by
  unfold countInputOwner; try dsimp only
  repeat' split
  all_goals simp

end Sys2Proof.Machine
end

