-- ==== Sys2Proof/Laws/Safety.lean ====
section
/-! SUPPORT. The first lemmas about what claims are stated in: CPo's choice at the end of a step changes nothing else, and
a dispatch in ACTIVE takes the record as Safety.lean spells it out. -/

namespace Sys2Proof.Machine

theorem SameButChoice.refl (s : State) : SameButChoice s s := rfl

theorem SameButChoice.trans {s t u : State} (h : SameButChoice s t) (h' : SameButChoice t u) : SameButChoice s u := by
  unfold SameButChoice at h h' ⊢
  generalize u.cpo.presented = a, u.cpo.eventPointer = b, u.cpo.lastWritten = c at h'
  subst h'
  rw [h]

/-- Setting what a choice sets changes nothing else. -/
theorem sameButChoice_set (s : State) (a : Option Presented) (b : Nat) (c : Written) :
    SameButChoice s (s.setCpo { s.cpo with presented := a, eventPointer := b, lastWritten := c }) := rfl

/-- The next state of a choice, as an update of the state before it. -/
theorem SameButChoice.exists_eq {s t : State} (h : SameButChoice s t) :
    ∃ a b c, t = s.setCpo { s.cpo with presented := a, eventPointer := b, lastWritten := c } :=
  ⟨_, _, _, h⟩

theorem sameButChoice_chooseWrite (s : State) : SameButChoice s (chooseWrite s) := by
  unfold chooseWrite
  repeat' split
  all_goals first | exact .refl s | exact sameButChoice_set s _ _ _

theorem sameButChoice_withdrawStaleEvent (s : State) : SameButChoice s (withdrawStaleEvent s) := by
  unfold withdrawStaleEvent
  repeat' split
  all_goals first | exact .refl s | exact sameButChoice_set s _ _ _

/-- CPo's choice and a withdrawal of a stale event change nothing but the choice. -/
theorem sameButChoice_settled (s : State) : SameButChoice s (chooseWrite (withdrawStaleEvent s)) :=
  (sameButChoice_withdrawStaleEvent s).trans (sameButChoice_chooseWrite _)

/-- A step that ends in CPo's choice answers a next state that is the one before it but for the choice. -/
theorem finish_next (s : State) : ∃ t, finish s = .next t ∧ SameButChoice s t :=
  ⟨_, rfl, sameButChoice_settled s⟩

/-- The chosen ring is able (R166). -/
theorem ringAble_of_chosen {s : State} {r : RingId} (h : chosenRing s = some r) : ringAble s r = true := by
  unfold chosenRing at h
  cases hu : ringAble s .u <;> cases hb : ringAble s .b <;> simp [hu, hb] at h
  · subst h; exact hb
  · subst h; exact hu
  · split at h <;> cases h <;> assumption

/-- A ring is chosen only in ACTIVE (R163). -/
theorem active_of_chosen {s : State} {r : RingId} (h : chosenRing s = some r) : s.dev.state = .active := by
  have := ringAble_of_chosen h
  simp only [ringAble, Bool.and_eq_true, beq_iff_eq] at this
  exact this.1.1.1

/-- In ACTIVE an answer joins the request queue and changes nothing else (R176). -/
theorem answer_active {s : State} (h : s.dev.state = .active) (t : Ticket) (x : Status) (a b : Word) :
    answer t x a b s = withRequest s t x a b := by
  simp [answer, request, deliver, h, enqueue, withRequest, State.setCpo]

/-- The take, as Safety.lean spells it out (R164). -/
theorem afterTake_eq (s : State) (r : RingId) :
    takeRecord r (s.setPassOver (passOverAfter s r)) = afterTake s r := by
  cases r <;> rfl

/-- A dispatch of a held record is its owner's ruling, settled (R164, R165). -/
theorem dispatch_held {k : Kind} {o : RecordOwner} {s : State} {r : RingId} {record : List Byte}
    (h : Held k s r record) :
    dispatch k o s = finish (settleRuling r (nextTicket s r record) (s.setPassOver (countAfter s r))
      (o (nextTicket s r record) record (afterTake s r))) := by
  unfold dispatch
  rw [h.chosen]
  simp only [h.held, h.kind, if_true]
  unfold dispatchHeld
  simp only [h.header, if_true, afterTake_eq]
  cases r <;> rfl

@[simp] theorem afterTake_frame (s : State) (r : RingId) :
    (afterTake s r).pending = s.pending ∧ (afterTake s r).dev = s.dev ∧ (afterTake s r).tb = s.tb ∧
      (afterTake s r).cins = s.cins ∧ (afterTake s r).groups = s.groups ∧ (afterTake s r).zones = s.zones ∧
      (afterTake s r).tallies = s.tallies ∧ (afterTake s r).glyphs = s.glyphs ∧
      (afterTake s r).bindings = s.bindings ∧ (afterTake s r).slots = s.slots ∧
      (afterTake s r).staging = s.staging ∧ (afterTake s r).channels = s.channels ∧
      (afterTake s r).waitQueue = s.waitQueue ∧ (afterTake s r).rrNext = s.rrNext ∧
      (afterTake s r).flight = s.flight ∧ (afterTake s r).ports = s.ports ∧ (afterTake s r).lists = s.lists ∧
      (afterTake s r).regions = s.regions := by
  cases r <;> simp [afterTake, State.setRing, State.setRingU, State.setRingB]

/-- An owner that answers at once: the record is taken and its completion requested (R164). -/
theorem dispatch_answered {k : Kind} {o : RecordOwner} {s : State} {r : RingId} {record : List Byte}
    (h : Held k s r record) {x : Status} {a b : Word} {u : State} (hd : u.dev = s.dev)
    (ho : o (nextTicket s r record) record (afterTake s r) = .answered x a b u) :
    ∃ t, dispatch k o s = .next t ∧ SameButChoice (withRequest u (nextTicket s r record) x a b) t := by
  rw [dispatch_held h, ho]
  simp only [settleRuling]
  rw [answer_active (by rw [hd]; exact active_of_chosen h.chosen)]
  exact finish_next _

/-- An owner that accepts: the record is taken, and its completion comes later (R164). -/
theorem dispatch_accepted {k : Kind} {o : RecordOwner} {s : State} {r : RingId} {record : List Byte}
    (h : Held k s r record) {u : State} (ho : o (nextTicket s r record) record (afterTake s r) = .accepted u) :
    ∃ t, dispatch k o s = .next t ∧ SameButChoice u t := by
  rw [dispatch_held h, ho]
  exact finish_next _

/-- An owner that withdraws for lack of slots: nothing is taken, and the ring is STALLED (R164, R167). -/
theorem dispatch_withdrawn {k : Kind} {o : RecordOwner} {s : State} {r : RingId} {record : List Byte}
    (h : Held k s r record) {n : Nat} (ho : o (nextTicket s r record) record (afterTake s r) = .withdrawn n) :
    ∃ t, dispatch k o s = .next t ∧ SameButChoice (afterStall s r n) t := by
  rw [dispatch_held h, ho]
  obtain ⟨t, e, ht⟩ := finish_next (stallRing r n (s.setPassOver (countAfter s r)))
  refine ⟨t, e, ?_⟩
  have : stallRing r n (s.setPassOver (countAfter s r)) = afterStall s r n := by cases r <;> rfl
  rw [← this]
  exact ht

/-- A refusal at the dispatch: the record is taken, its completion requested, and nothing else happens (R164). -/
theorem dispatch_refused {k : Kind} {o : RecordOwner} {s : State} {r : RingId} {record : List Byte}
    (h : Held k s r record) {x : Status} {a b : Nat}
    (ho : o (nextTicket s r record) record (afterTake s r) = refuse x a b (afterTake s r)) :
    ∃ t, dispatch k o s = .next t ∧ SameButChoice (afterAnswer s r record x a b) t :=
  dispatch_answered h (by simp) ho

/-- An answer at the dispatch whose owner changes what neither the take nor a request touches (R164). -/
theorem dispatch_changed {k : Kind} {o : RecordOwner} {s : State} {r : RingId} {record : List Byte}
    (h : Held k s r record) {x : Status} {a b : Word} {u v : State}
    (ho : o (nextTicket s r record) record (afterTake s r) = .answered x a b u) (hd : u.dev = s.dev)
    (hv : v = withRequest u (nextTicket s r record) x a b) :
    ∃ t, dispatch k o s = .next t ∧ SameButChoice v t := by
  subst hv
  exact dispatch_answered h hd ho

/-- A field that is the number of a thing names it. -/
theorem idOf_val {n v : Nat} (i : Fin n) (h : v = i.val) : idOf n v = some i := by
  subst h
  simp [idOf]

/-- A field at or above the number of things names none. -/
theorem idOf_big {n v : Nat} (h : n ≤ v) : idOf n v = none := by
  simp only [idOf]
  split
  · omega
  · rfl

end Sys2Proof.Machine
end

