-- ==== Sys2Proof/WellFormed.lean ====
section
/-! DEFINITION. Which commands are well formed: what a bus answer may carry and what the three rows of a CONTROL write
name. Panel, tally, line, ring and register operands are in range by their types. -/

namespace Sys2Proof

/-- An answer to a read of `n` bytes carries `n` bytes when it is OK (R67, R73). -/
def ReadEnd.carries (n : Nat) : ReadEnd → Bool
  | .ok data => data.length == n
  | .busError => true
  | .timeout => true

/-- An answer to a data burst carries at most 256 bytes when it is OK (R71). -/
def ReadEnd.atMostBurst : ReadEnd → Bool
  | .ok data => data.length ≤ 256
  | .busError => true
  | .timeout => true

/-- A record and a setup block are 64 bytes (R67, 11.4), a data burst at most 256 (R71); the SOFT_RESET bit tells the
rows of a CONTROL write apart (R188). -/
def Instr.wellFormed : Instr → Bool
  | .setupReadEnd a => a.carries 64
  | .ringReadEnd a => a.carries 64
  | .fetchBurstEnd a => a.atMostBurst && a != .ok []
  | .orphanBurstEnd a => a.atMostBurst
  | .enable v => !v.getLsbD 1
  | .intEnable v => !v.getLsbD 1
  | .softReset v => v.getLsbD 1
  | .resetNAssert | .resetNRelease | .initClearEnd | .pfltAssert _ | .pfltRelease _ | .cinLevelChange _ _
  | .usTick | .msTick | .timebasePeriodStep _ | .filterHoldExpiry _ | .burstTimeout | .setupReadTimeout
  | .lateAnswer | .tailWrite _ _ | .cRelease _ | .registerWrite _ _ | .burstIssue | .completionWriteEnd _
  | .writeBackBurstEnd _ | .frameBoundary _ | .rowTransfer _ | .frameEnd _ | .resettingExit
  | .nop | .unknownKind | .sync | .panelConfig | .panelStart | .panelStop | .panelHold | .panelWindow
  | .update | .fill | .capture | .cancel | .glyphLoad | .tallyBind | .tallyUnbind | .tallyDefine
  | .tallyControl | .tallyRead | .blinkGroup | .blinkZone | .countInput => true

end Sys2Proof
end

