-- ==== Sys2Proof/Tests/Slice0.lean ====
section
/-! SUPPORT. The model's own tests: the well-formedness checks with a term each refuses, one or two steps of every
command against what its rule says, and for every statement with hypotheses the concrete states and operands that meet
them, at a boundary of each clause. Expected values are worked by hand from the rules named. -/

namespace Sys2Proof.Tests
open Sys2Proof Sys2Proof.Machine

set_option Elab.async false

/-! ## Small states -/

/-- Setup values: rings of 16 places, burst timeout 100 us, starvation limit 3. -/
def values : SetupValues where
  baseU := 0x2000
  sizeU := 16
  baseB := 0x4000
  sizeB := 16
  completionBase := 0x8000
  completionSize := 16
  refMhz := 20
  burstTimeout := 100
  starvationLimit := 3

/-- The part set up and in device state `d`, everything else as after reset. -/
def inState (d : DeviceState) : State :=
  { State.reset with
    dev := { Device.reset with
      resetAsserted := false, state := d, setup := some values, setupAddress := 0x1000, enable := true }
    tb := { running := true, refMhz := some 20, us := 0, ms := 0 }
    cins := Vector.replicate 8 { CountInput.reset with accepted := some false }
    cpo := { Poster.reset with phase := true } }

def ready : State := inState .active

/-- A 64-byte record of the kind, tag 7, with the body's bytes from offset 16 on (11.7.1). -/
def record (kind : Nat) (body : List Nat) : List Byte :=
  leBytes 2 kind ++ leBytes 2 0 ++ leBytes 4 7 ++ leBytes 8 0 ++ body.map (BitVec.ofNat 8) ++
    List.replicate (48 - body.length) 0

/-- Ring U holds the record. -/
def holding (b : List Byte) (s : State) : State :=
  { s with ringU := { s.ringU with tail := 1, holder := some b } }

/-- The state a command answers. -/
def after (c : Instr) (s : State) : State :=
  match exec c s with
  | .next t => t
  | .fault _ => s
  | .refused _ => s

/-- The completions waiting, as status and details. -/
def answers (s : State) : List (Status × Nat × Nat) :=
  s.cpo.queue.map fun c => (c.status, c.detailA.toNat, c.detailB.toNat)

/-- What a record is answered with, right after its dispatch. -/
def answer (c : Instr) (b : List Byte) (s : State) : List (Status × Nat × Nat) := answers (after c (holding b s))

/-- 16 columns by 8 rows, depth 1, 1 lane, rows of 4 us, one blank row, drive mode FRAME. -/
def smallConfig : PanelConfig where
  width := 16
  height := 8
  depth := 1
  lanes := 1
  rowTime := 4
  blankRows := 1
  windowFirst := 0
  windowLast := 7
  driveMode := .frame
  driveRows := none
  spreadA := 0
  spreadB := 0

def smallFrame : Frame where
  kind := .ordinary
  first := 0
  last := 7
  startPhase := .a
  invisible := []
  rowsDone := 0
  elapsed := 0

/-- A configured port in the panel state. -/
def portIn (x : PanelState) (f : Option Frame) : Port :=
  { Port.reset with config := some smallConfig, state := x, frame := f }

/-- ACTIVE, with panel 0 configured and in the panel state. -/
def withPanel (x : PanelState) (f : Option Frame) : State := ready.setPort 0 (portIn x f)

def ticket (n : Word) : Ticket where
  tag := 7
  kind := 0x20
  ring := .u
  take := n

/-- A list entry of take number `n`: 8 by 2 pixels at (0, 0), 2 bytes of cost. -/
def entry (kind : EntryKind) (x : EntryState) (slots : Option (List (Fin 24))) (n : Word) : Entry where
  ticket := ticket n
  kind := kind
  rect := { x := 0, y := 0, w := 8, h := 2 }
  state := x
  slots := slots
  address := some 0x10000
  stride := some 64
  shade := some 1
  cost := 2
  commitFrame := none

/-- A fetch of the 2 bytes of an entry of take number 1. -/
def fetch (done : Nat) : Operation where
  owner := .entry 0 .u 1
  write := false
  address := 0x10000
  stride := 64
  rowBytes := 1
  rows := 2
  slots := [0]
  done := done

/-- A transfer in flight for the requester, with the timeout just due. -/
def flightOf (r : Requester) (write : Bool) (length : Nat) : Flight where
  requester := r
  write := write
  address := 0x10000
  length := length
  data := []
  elapsed := 100

/-- A burst of `op` in flight on channel 0, for panel 0's list. -/
def bursting (op : Operation) (length : Nat) (l : List Entry) : State :=
  { (((withPanel .running none).setList 0 l).setChannel 0 (.inFlight op)) with
    slots := (Vector.replicate 24 SlotState.free).set 0 (.owned op.owner)
    flight := some (flightOf (.channel 0) op.write length) }

/-- A tally of one digit of modulus 3, counting CIN0 up, WRAP, both events enabled. -/
def smallTally (run : TallyRun) (v : Nat) : TallyDef where
  run := run
  moduli := [3]
  value := [v]
  direction := .up
  source := .cin 0
  endAction := .wrap
  reload := none
  watch := some [1]
  endEnabled := true
  watchEnabled := true
  remainder := none

def withTally (run : TallyRun) (v : Nat) : State :=
  ready.setTally 0 { defn := some (smallTally run v), endCount := 0, watchCount := 0 }

/-- 4 by 5 pixels a glyph; every glyph is 0xF0, 0, 0, 0, 0 but glyph 10, which is blank. -/
def smallGlyphs : GlyphSet :=
  .ready 4 5 2 ((List.range 13).flatMap fun g => [if g = 10 then 0 else 0xF0, 0, 0, 0, 0])

def smallBinding : Binding where
  panel := 0
  rect := { x := 0, y := 0, w := 4, h := 5 }
  glyphSet := 0
  pitch := 4
  foreground := 1
  background := 0
  blankLeading := 0
  separators := []
  expiryGroup := none
  dirty := true

/-- A valid setup block (11.7.3), with one byte replaced. -/
def setupBlock (i : Nat) (v : Byte) : List Byte :=
  (leBytes 8 0x2000 ++ leBytes 8 0x4000 ++ leBytes 8 0x8000 ++ leBytes 2 16 ++ leBytes 2 16 ++ leBytes 2 16 ++
    leBytes 1 20 ++ leBytes 1 3 ++ leBytes 2 100 ++ List.replicate 30 0).set i v

/-- SETUP with the setup read in flight. -/
def inSetup : State := { inState .setup with flight := some (flightOf .setup false 64) }

/-! ## Well-formedness: each check refuses an ill-formed term -/

theorem test_wellFormed_setupReadEnd : (Instr.setupReadEnd (.ok (List.replicate 63 0))).wellFormed = false := by decide
theorem test_wellFormed_ringReadEnd : (Instr.ringReadEnd (.ok (List.replicate 65 0))).wellFormed = false := by decide
theorem test_wellFormed_fetchBurstEnd_empty : (Instr.fetchBurstEnd (.ok [])).wellFormed = false := by decide
theorem test_wellFormed_fetchBurstEnd_long :
    (Instr.fetchBurstEnd (.ok (List.replicate 257 0))).wellFormed = false := by decide +kernel
theorem test_wellFormed_orphanBurstEnd :
    (Instr.orphanBurstEnd (.ok (List.replicate 257 0))).wellFormed = false := by decide +kernel
theorem test_wellFormed_enable : (Instr.enable 3).wellFormed = false := by decide
theorem test_wellFormed_intEnable : (Instr.intEnable 6).wellFormed = false := by decide
theorem test_wellFormed_softReset : (Instr.softReset 5).wellFormed = false := by decide
theorem test_wellFormed_accepts : (Instr.setupReadEnd (.ok (List.replicate 64 0))).wellFormed = true := by decide

/-- The table gives no row any bits: no word spells a command, and nothing is put into the queue. -/
theorem test_decodeTableWord : decodeTableWord 32 5 = none ∧ State.reset.withFetchWord 32 5 = State.reset := by
  decide +kernel

/-! ## One step of every command -/

/-- R187. -/
theorem test_resetNAssert : (after .resetNAssert ready).dev = Device.reset := by decide +kernel
/-- R187. -/
theorem test_resetNRelease : (after .resetNRelease State.reset).dev.resetAsserted = false := by decide +kernel
/-- R187, R2. -/
theorem test_initClearEnd : let t := after .initClearEnd ((inState .init).setRegion 2 [(513, 1)])
    t.dev.state = .halted ∧ (t.region 2).shade 1 1 = 0 := by decide +kernel
/-- R90, R91: PANEL_FAULT waits with the frame number. -/
theorem test_pfltAssert :
    let t := after (.pfltAssert 0) ((withPanel .running (some smallFrame)).setPort 0
      { portIn .running (some smallFrame) with frameNumber := 9 })
    (t.port 0).state = .faulted ∧ t.panelFaultEvent 0 = some 9 := by decide +kernel
/-- R90: the line's release leaves the panel FAULTED. -/
theorem test_pfltRelease :
    let t := after (.pfltRelease 0) (ready.setPort 0 { portIn .faulted none with faultLine := true })
    (t.port 0).state = .faulted ∧ (t.port 0).faultLine = false := by decide +kernel
/-- R150: filter 0, RISE; R107: the tally goes from 0 to 1, its watch value. -/
theorem test_cinLevelChange : let t := after (.cinLevelChange 0 true) (withTally .running 0)
    (t.tally 0).defn.map (·.value) = some [1] ∧ (t.tally 0).watchCount = 1 := by decide +kernel
/-- R151: under RISE a falling level steps nothing. -/
theorem test_cinLevelChange_fall :
    let s := (withTally .running 0).setCin 0 { CountInput.reset with raw := true, accepted := some true }
    ((after (.cinLevelChange 0 false) s).tally 0).defn.map (·.value) = some [0] := by decide +kernel
/-- R146. -/
theorem test_usTick : let t := after .usTick ready
    t.tb.us = 1 ∧ t.tb.ms = 0 := by decide +kernel
/-- R146: the thousandth us tick. -/
theorem test_msTick : (after .msTick (ready.setTb { ready.tb with us := 999 })).tb.ms = 1 := by decide +kernel
/-- R115: the tenth ms of P10MS steps the tally and the remainder begins anew. -/
theorem test_timebasePeriodStep :
    let s := (ready.setTb { ready.tb with us := 999 }).setTally 0
      { defn := some { smallTally .running 1 with source := .p10ms, remainder := some 9 }, endCount := 0, watchCount := 0 }
    let d := ((after (.timebasePeriodStep 0) s).tally 0).defn
    d.map (·.value) = some [2] ∧ d.map (·.remainder) = some (some 0) := by decide +kernel
/-- R150: filter 2, the second ms at the new level. -/
theorem test_filterHoldExpiry :
    let s := (ready.setTb { ready.tb with us := 999 }).setCin 0
      { CountInput.reset with raw := true, filter := 2, accepted := some false, hold := 1 }
    ((after (.filterHoldExpiry 0) s).cin 0).accepted = some true := by decide +kernel
/-- R73, R162: a record read times out. -/
theorem test_burstTimeout :
    let s := { ready with flight := some (flightOf (.ring .u) false 64), ringU := { Ring.reset with tail := 1 } }
    (after .burstTimeout s).ringU.state = .fault ∧ (after .burstTimeout s).flight = none := by decide +kernel
/-- R189. -/
theorem test_setupReadTimeout : (after .setupReadTimeout inSetup).dev.cause = .setupRead := by decide +kernel
/-- R73. -/
theorem test_lateAnswer : after .lateAnswer inSetup = inSetup := by decide +kernel
/-- R188: ENABLE 0 in ACTIVE pauses. -/
theorem test_enable : (after (.enable 0) ready).dev.state = .paused := by decide +kernel
/-- R188, R189: a setup address that is not a multiple of 64; ENABLE reads as it was written. -/
theorem test_enable_misaligned :
    let s := inState .halted
    let t := after (.enable 1) (s.setDev { s.dev with enable := false, setupAddress := 0x1020 })
    t.dev.state = .halted ∧ t.dev.cause = .setupInvalid ∧ t.dev.enable = true := by decide +kernel
/-- R192: a RUNNING panel with a frame drains. -/
theorem test_softReset : let t := after (.softReset 2) (withPanel .running (some smallFrame))
    t.dev.state = .resetting ∧ (t.port 0).state = .draining := by decide +kernel
/-- R182. -/
theorem test_intEnable : (after (.intEnable 5) ready).dev.intEnable = true := by decide +kernel
/-- R160, R162: at the size the tail is bad. -/
theorem test_tailWrite : (after (.tailWrite .u 16) ready).ringU.state = .fault := by decide +kernel
/-- R160: below the size the tail moves. -/
theorem test_tailWrite_last : (after (.tailWrite .b 15) ready).ringB.tail = 15 := by decide +kernel
/-- R181: post itself releases everything. -/
theorem test_cRelease :
    (after (.cRelease 2) (ready.setCpo { ready.cpo with post := 2 })).cpo.release = 2 := by decide +kernel
/-- R181: one past post. -/
theorem test_cRelease_bad :
    (after (.cRelease 3) (ready.setCpo { ready.cpo with post := 2 })).dev.cause = .poster .badRelease := by
  decide +kernel
/-- R188: the upper half keeps the lower. -/
theorem test_registerWrite :
    (after (.registerWrite .setupHi 2) ready).dev.setupAddress = 0x200001000 := by decide +kernel
/-- R161: record 1 of ring U lies at base + 64. -/
theorem test_burstIssue :
    let t := after .burstIssue { ready with ringU := { Ring.reset with head := 1, tail := 2 } }
    t.flight.map (·.address) = some 0x2040 ∧ t.flight.map (·.requester) = some (.ring .u) := by decide +kernel
/-- R188: a write to SETUP_LO in SETUP is for the next entry; the read goes to the address of this one. -/
theorem test_burstIssue_setup :
    (after .burstIssue (after (.registerWrite .setupLo 0x33) (after (.enable 1) (inState .halted)))).flight.map (·.address) =
      some 0x1000 := by decide +kernel
/-- 11.3: HALTED (1), SETUP_INVALID (1) with field 7, ring B in RING_FAULT (2). -/
theorem test_statusWord :
    let s := inState .halted
    ({ s.setDev { s.dev with cause := .setupInvalid, causeField := 7 } with
        ringB := { Ring.reset with state := .fault } }).readRegister .status = 0x8711 := by decide +kernel
/-- R191. -/
theorem test_setupReadEnd : let t := after (.setupReadEnd (.ok (setupBlock 63 0))) inSetup
    t.dev.state = .active ∧ t.cpo.phase = true := by decide +kernel
/-- R190: REF_MHZ 3 is below 4. -/
theorem test_setupReadEnd_invalid :
    (after (.setupReadEnd (.ok (setupBlock 30 3))) inSetup).dev.causeField = 7 := by decide +kernel
/-- R161. -/
theorem test_ringReadEnd :
    let s := { ready with flight := some (flightOf (.ring .u) false 64), ringU := { Ring.reset with tail := 1 } }
    (after (.ringReadEnd (.ok (record 1 []))) s).ringU.holder = some (record 1 []) := by decide +kernel
/-- R179: post wraps from 15 to 0 and the phase flips. -/
theorem test_completionWriteEnd :
    let c : Completion := { ticket := ticket 1, status := .ok, detailA := 0, detailB := 0 }
    let t := after (.completionWriteEnd .ok) { ready with
      flight := some (flightOf (.poster (.completion c)) true 16)
      ringU := { Ring.reset with outstanding := [1] }
      cpo := { Poster.reset with post := 15, phase := true, reserved := 1 } }
    (t.cpo.post, t.cpo.phase, t.cpo.reserved) = (0, false, 0) ∧ t.ringU.outstanding = [] := by decide +kernel
/-- R20, R72: the second byte of two makes the entry READY. -/
theorem test_fetchBurstEnd :
    let t := after (.fetchBurstEnd (.ok [0xA5])) (bursting (fetch 1) 1 [entry .update .fetching (some [0]) 1])
    t.staging = [(1, 0xA5)] ∧ (t.list 0).map (·.state) = [.ready] := by decide +kernel
/-- R21, R74: a bus error in the burst that began in row 1. -/
theorem test_fetchBurstEnd_error :
    let t := after (.fetchBurstEnd .busError) (bursting (fetch 1) 1 [entry .update .fetching (some [0]) 1])
    answers t = [(.fetchError, 1, 0)] ∧ t.slot 0 = .free := by decide +kernel
/-- R21: detail a the commit frame, detail b the cost. -/
theorem test_writeBackBurstEnd :
    let e := { entry .capture .writing (some [0]) 1 with commitFrame := some 6 }
    answers (after (.writeBackBurstEnd .ok) (bursting { fetch 1 with write := true } 1 [e])) = [(.ok, 6, 2)] := by
  decide +kernel
/-- R76. -/
theorem test_orphanBurstEnd :
    let t := after (.orphanBurstEnd .busError) { ready with
      flight := some (flightOf (.orphan (fetch 0)) false 1)
      slots := (Vector.replicate 24 SlotState.free).set 0 .reclaim }
    t.slot 0 = .free ∧ t.cpo.queue = [] := by decide +kernel
/-- R42, R53: a READY FILL lights its 8 by 2 pixels. -/
theorem test_frameBoundary :
    let t := after (.frameBoundary 0) ((withPanel .running none).setList 0 [entry .fill .ready none 1])
    (t.region 0).shade 7 1 = 1 ∧ (t.region 0).shade 8 1 = 0 := by decide +kernel
/-- R142: the digit 1 of the tally, glyph 1: its top row is lit. -/
theorem test_frameBoundary_binding :
    let s := ((withPanel .running none).setTally 0 { defn := some (smallTally .running 1), endCount := 0, watchCount := 0 })
    let t := after (.frameBoundary 0) ((s.setGlyph 0 smallGlyphs).setBinding 0 0 (some smallBinding))
    (t.region 0).shade 3 0 = 1 ∧ (t.region 0).shade 3 1 = 0 := by decide +kernel
/-- R49, R54: a CAPTURE behind a FILL of the same pixels stages what the FILL has drawn. -/
theorem test_frameBoundary_capture :
    let t := after (.frameBoundary 0) ((withPanel .running none).setList 0
      [entry .fill .ready none 1, entry .capture .ready (some [1]) 2])
    stagedByte t.staging [1] 0 = 0xFF ∧ (t.list 0).map (·.state) = [.committed, .writing] := by decide +kernel
/-- R98, R100: shade 1 at depth 1 is lit, shade 0 is not. -/
theorem test_rowTransfer :
    let s := (withPanel .running (some { smallFrame with elapsed := 8 })).setRegion 0 [(1, 1)]
    (((after (.rowTransfer 0) s).port 0).lastRow.map fun o => (o.pulses.take 3).map (·.head?)) =
      some [some false, some true, some false] := by decide +kernel
/-- R98: before the first row time has elapsed nothing is sent. -/
theorem test_rowTransfer_early :
    ((after (.rowTransfer 0) (withPanel .running (some { smallFrame with elapsed := 7 }))).port 0).lastRow = none := by
  decide +kernel
/-- R83: the lead-in frame's end. -/
theorem test_frameEnd :
    let o := { portIn .starting (some { smallFrame with kind := .leadIn, rowsDone := 8 }) with waitingStarts := [ticket 1] }
    let t := after (.frameEnd 0) (ready.setPort 0 o)
    (t.port 0).state = .running ∧ answers t = [(.ok, 0, 0)] := by decide +kernel
/-- R193. -/
theorem test_resettingExit : (after .resettingExit (inState .resetting)).dev.state = .halted := by decide +kernel
/-- R169. -/
theorem test_nop : answer .nop (record 1 []) ready = [(.ok, 0, 0)] := by decide +kernel
/-- R165. -/
theorem test_unknownKind : answer .unknownKind (record 0x0999 []) ready = [(.unknownKind, 0x0999, 0)] := by
  decide +kernel
/-- R171. -/
theorem test_sync : answer .sync (record 2 []) ready = [(.ok, 0, 0)] := by decide +kernel
/-- R13. -/
theorem test_panelConfig :
    answer .panelConfig (record 0x10 [0, 0, 16, 0, 8, 0, 1, 1, 4, 0, 1, 0, 0, 0, 7, 0, 1, 0, 0, 0]) ready = [(.ok, 0, 0)] ∧
    answer .panelConfig (record 0x10 [0, 0, 16, 0, 8, 0, 3, 1, 4, 0, 1, 0, 0, 0, 7, 0, 1, 0, 0, 0]) ready =
      [(.refusedParam, 4, 0)] := by decide +kernel
/-- R82: the lead-in frame's number is 0. -/
theorem test_panelStart : let t := after .panelStart (holding (record 0x11 [0]) (withPanel .off none))
    (t.port 0).state = .starting ∧ (t.port 0).frame.map (·.kind) = some .leadIn := by decide +kernel
/-- R37, R84: a READY entry is flushed, the panel drains. -/
theorem test_panelStop :
    let t := after .panelStop (holding (record 0x12 [0])
      ((withPanel .running (some smallFrame)).setList 0 [entry .fill .ready none 1]))
    answers t = [(.panelStopped, 0, 0)] ∧ (t.port 0).state = .draining := by decide +kernel
/-- R88. -/
theorem test_panelHold :
    ((after .panelHold (holding (record 0x13 [0, 1]) (withPanel .running none))).port 0).state = .frozen := by
  decide +kernel
/-- R89: the window is pending while frames run. -/
theorem test_panelWindow :
    ((after .panelWindow (holding (record 0x14 [0, 0, 1, 0, 6, 0]) (withPanel .running none))).port 0).pendingWindow =
      some (1, 6) := by decide +kernel
/-- R26, R63, R69: 8 by 2 pixels at depth 1 need slot 0, and a FREE channel takes the fetch at once. -/
theorem test_update :
    let b := record 0x20 [0, 0, 0, 0, 0, 0, 8, 0, 2, 0, 0, 0, 0, 0, 0, 0, 0, 0, 1, 0, 0, 0, 0, 0, 64, 0, 0, 0]
    let t := after .update (holding b (withPanel .running none))
    (t.list 0).map (·.state) = [.fetching] ∧ t.slot 0 = .owned (.entry 0 .u 1) := by decide +kernel
/-- R24: shade 2 is above L = 1. -/
theorem test_fill :
    answer .fill (record 0x21 [0, 0, 0, 0, 0, 0, 8, 0, 2, 0, 2]) (withPanel .running none) = [(.refusedParam, 3, 0)] := by
  decide +kernel
/-- R26. -/
theorem test_capture :
    let b := record 0x22 [0, 0, 0, 0, 0, 0, 8, 0, 2, 0, 0, 0, 0, 0, 0, 0, 0, 0, 1, 0, 0, 0, 0, 0, 64, 0, 0, 0]
    ((after .capture (holding b (withPanel .running none))).list 0).map (·.state) = [.ready] := by decide +kernel
/-- R31, R34: one cancelled, one too late. -/
theorem test_cancel :
    let s := (withPanel .running none).setList 0
      [entry .fill .ready none 1, { entry .fill .committed none 2 with commitFrame := some 3 }]
    answer .cancel (record 0x23 [7, 0, 0, 0, 255]) s = [(.cancelled, 0, 0), (.ok, 1, 1)] := by decide +kernel
/-- R133: 13 glyphs of 5 bytes need one slot. -/
theorem test_glyphLoad :
    let t := after .glyphLoad (holding (record 0x30 [1, 4, 5, 2, 0, 0, 0, 0, 0, 0, 1]) ready)
    (t.glyph 1).stateCode = 1 ∧ t.slot 0 = .owned (.glyph 1) := by decide +kernel
/-- R137, R138: one digit at pitch 4, glyphs 5 high. -/
theorem test_tallyBind :
    let s := ((withPanel .running none).setTally 0 { defn := some (smallTally .running 1), endCount := 0, watchCount := 0 })
    answer .tallyBind (record 0x31 [0, 0, 0, 0, 0, 0, 0, 0, 0, 4, 1, 0, 0]) (s.setGlyph 0 smallGlyphs) = [(.ok, 4, 5)] := by
  decide +kernel
/-- R140. -/
theorem test_tallyUnbind : answer .tallyUnbind (record 0x32 [0, 0]) ready = [(.notFound, 0, 0)] := by decide +kernel
/-- R118, R119: digits 2 1 at moduli 3 and 4: packed 0x21. -/
theorem test_tallyDefine :
    answer .tallyDefine (record 0x40 [0, 2, 3, 4, 0, 0, 0, 0, 0, 0, 0, 12, 1, 3, 0, 0, 0, 0, 0, 0, 0x12]) ready =
      [(.ok, 0, 0x12)] ∧
    answer .tallyDefine (record 0x40 [0, 2, 3, 4, 0, 0, 0, 0, 0, 0, 0, 12, 1, 3, 0, 0, 0, 0, 0, 0, 0x43]) ready =
      [(.refusedParam, 8, 0)] := by decide +kernel
/-- R122: two steps from 2 wrap to 0 and reach 1. -/
theorem test_tallyControl :
    answer .tallyControl (record 0x41 [0, 3, 0, 0, 0, 0, 0, 0, 2]) (withTally .stopped 2) = [(.ok, 2, 1)] := by
  decide +kernel
/-- R124: state RUNNING (2), one digit. -/
theorem test_tallyRead : answer .tallyRead (record 0x42 [0]) (withTally .running 2) = [(.ok, 2, 0x02010000)] := by
  decide +kernel
/-- R155. -/
theorem test_blinkGroup :
    ((after .blinkGroup (holding (record 0x50 [1, 0, 2, 0, 25]) ready)).group 1).period = 2 := by decide +kernel
/-- R158: the place was empty. -/
theorem test_blinkZone :
    answer .blinkZone (record 0x51 [3, 1, 0, 0, 0, 0, 0, 0, 8, 0, 2, 0, 1]) (withPanel .running none) = [(.ok, 0, 0)] := by
  decide +kernel
/-- R152: the raw level is reported, and taken as accepted. -/
theorem test_countInput :
    answer .countInput (record 0x52 [0, 2, 15]) (ready.setCin 0 { CountInput.reset with raw := true }) = [(.ok, 1, 0)] := by
  decide +kernel

/-! ## Witnesses: the hypotheses of every statement are met

`step` and `exec` answer next states, so a hypothesis `… = .next t` is met by `isNext`. -/

/-- The command, or step, answers a next state. -/
def isNext (o : Host.Outcome State Fault Refusal) : Bool :=
  match o with
  | .next _ => true
  | .fault _ => false
  | .refused _ => false

theorem exists_of_isNext {o : Host.Outcome State Fault Refusal} (h : isNext o = true) : ∃ t, o = .next t := by
  cases o with
  | next t => exact ⟨t, rfl⟩
  | fault r => cases h
  | refused r => cases h

/-- `Held`, from what can be evaluated. -/
theorem held_of {k : Kind} {s : State} {r : RingId} {b : List Byte}
    (h : chosenRing s = some r ∧ (s.ring r).holder = some b ∧ recordKind b = some k ∧ headerClear b = true) :
    Held k s r b := ⟨h.1, h.2.1, h.2.2.1, h.2.2.2⟩

/-! ### The part as a whole -/

theorem witness_StepTakesTheFrontCommand :
    (ready.setPending [.usTick, .msTick]).pending = .usTick :: [.msTick] ∧ ready.pending = [] := by decide +kernel

/-- A lit pixel and a staged byte, with a frame boundary waiting. -/
def lit : State :=
  { ((withPanel .running none).setRegion 0 [(3, 1)]).setPending [.frameBoundary 0] with staging := [(2048, 9)] }

theorem witness_EveryStepKeepsMemoriesCanonical : (∃ t, step lit = .next t) ∧ lit.memoriesCanonical :=
  ⟨exists_of_isNext (by decide +kernel), by unfold State.memoriesCanonical; decide +kernel⟩

/-- A tally about to wrap, with both counts at their limit. -/
def counting : State :=
  (ready.setTally 0 { defn := some (smallTally .running 2), endCount := 255, watchCount := 255 }).setPending
    [.cinLevelChange 0 true]

theorem witness_EveryStepKeepsTalliesLawful : (∃ t, step counting = .next t) ∧ counting.talliesLawful := by
  refine ⟨exists_of_isNext (by decide +kernel), fun t => ?_⟩
  by_cases h : t = 0
  · subst h
    have h : counting.tally 0 = { defn := some (smallTally .running 2), endCount := 255, watchCount := 255 } := by
      decide +kernel
    rw [h]
    refine ⟨fun d hd => ?_, by decide, by decide⟩
    cases hd
    refine ⟨⟨by decide, by decide, by decide, ⟨by decide, trivial⟩, by simp [smallTally], fun v hv => ?_,
      by simp [smallTally], by simp [smallTally], ?_⟩, by simp [smallTally]⟩
    · cases hv
      exact ⟨by decide, trivial⟩
    · intro n hn
      cases hn
  · have h : counting.tally t = Tally.reset := by
      revert t
      decide +kernel
    rw [h]
    exact ⟨fun d hd => (by cases hd), by decide, by decide⟩

theorem smallConfig_lawful : smallConfig.lawful := by
  refine ⟨by decide, by decide, by decide, by decide, by decide, by decide, by decide, by decide, by decide, by decide,
    by decide, by decide, by decide, by decide, ?_, by decide, by decide⟩
  intro k hk
  cases hk

/-- A running panel at balance 1, with a window pending at the last row, and a frame end waiting. -/
def driving : State :=
  (ready.setPort 0 { portIn .running (some { smallFrame with rowsDone := 8 }) with
    balance := true, pendingWindow := some (7, 7) }).setPending [.frameEnd 0]

theorem witness_EveryStepKeepsPortsLawful : (∃ t, step driving = .next t) ∧ driving.portsLawful := by
  refine ⟨exists_of_isNext (by decide +kernel), fun p => ?_⟩
  by_cases h : p = 0
  · subst h
    have h : driving.port 0 = { portIn .running (some { smallFrame with rowsDone := 8 }) with
        balance := true, pendingWindow := some (7, 7) } := by decide +kernel
    rw [h]
    refine ⟨fun c hc => ?_, fun c w hc hw => ?_, fun _ => rfl, fun _ => rfl, fun h => (by cases h), fun c hc h => ?_⟩
    · cases hc
      exact smallConfig_lawful
    · cases hc
      cases hw
      decide
    · cases hc
      cases h
  · have h : driving.port p = Port.reset := by
      revert p
      decide +kernel
    rw [h]
    exact ⟨fun c hc => (by cases hc), fun c w hc => (by cases hc), fun h => absurd rfl h, fun h => (by cases h),
      fun _ => rfl, fun c hc => (by cases hc)⟩

/-- A full list and the pass-over count at its limit. -/
def full : State :=
  { ((withPanel .running none).setList 0 ((List.range 32).map fun n => entry .fill .ready none (word n))).setPending
      [.usTick] with passOver := 3 }

theorem witness_EveryStepKeepsBounds :
    (∃ t, step full = .next t) ∧ full.listsFit ∧ full.passOverBounded ∧ full.timebaseLawful ∧ full.causeFieldFits :=
  ⟨exists_of_isNext (by decide +kernel), by unfold State.listsFit; decide +kernel,
    by unfold State.passOverBounded; decide +kernel, by unfold State.timebaseLawful; decide +kernel,
    by unfold State.causeFieldFits; decide +kernel⟩

/-- A burst of panel 0's first entry in flight on channel 0, and the fetch of its second waiting. -/
def contended : State :=
  { bursting (fetch 0) 1 [entry .update .fetching (some [0]) 1, entry .update .queued (some [1]) 2] with
    waitQueue := [{ fetch 0 with owner := .entry 0 .u 2, slots := [1] }] }

/-- The premise of the withdrawals: the bus agrees with the channels, and no owner has two operations. -/
theorem contended_apart {s : State} (hc : s.channels = contended.channels) (hq : s.waitQueue = contended.waitQueue)
    (hf : s.flight = contended.flight) : s.transfersApart := by
  have h : ∀ i, s.channel i = contended.channel i := fun i => by unfold State.channel; rw [hc]
  have h0 : contended.channel 0 = .inFlight (fetch 0) := by decide +kernel
  have hs : ∀ i : Fin 4, i ≠ 0 → contended.channel i = .free := by decide +kernel
  have hop : ∀ i a, (s.channel i).op = some a → i = 0 ∧ a = fetch 0 := fun i a ha => by
    by_cases hi : i = 0
    · subst hi
      rw [h, h0] at ha
      cases ha
      exact ⟨rfl, rfl⟩
    · rw [h, hs i hi] at ha
      cases ha
  refine ⟨⟨fun c op ho => ?_, fun f c hs' hr => ?_⟩, fun i j a b ha hb _ => ?_, fun op ho i a ha => ?_, ?_⟩
  · obtain ⟨rfl, -⟩ := hop c op (by rw [ho]; rfl)
    exact ⟨flightOf (.channel 0) false 1, hf.trans rfl, rfl⟩
  · rw [hf] at hs'
    cases hs'
    cases hr
    exact ⟨fetch 0, (h 0).trans h0⟩
  · rw [(hop i a ha).1, (hop j b hb).1]
  · rw [hq] at ho
    obtain ⟨-, rfl⟩ := hop i a ha
    have : op = { fetch 0 with owner := .entry 0 .u 2, slots := [1] } := by simpa [contended] using ho
    subst this
    decide +kernel
  · rw [hq]
    decide +kernel

theorem witness_EveryStepKeepsBounds_bus :
    (∃ t, step (contended.setPending [.burstTimeout]) = .next t) ∧ (contended.setPending [.burstTimeout]).busAgrees :=
  ⟨exists_of_isNext (by decide +kernel), (contended_apart rfl rfl rfl).bus⟩

/-! ### Pins and resets -/

theorem witness_PinResetReleaseAndClearing :
    State.reset.dev.resetAsserted = true ∧ (inState .init).dev.resetAsserted = false ∧
      (inState .init).dev.state = .init := by decide +kernel

/-- A panel in each state with a list of an entry in each of two states; the line is released. -/
theorem witness_FaultLines :
    (∀ x ∈ [PanelState.starting, .running, .frozen, .draining],
      let s := (withPanel x (some smallFrame)).setList 0 [entry .fill .ready none 1, entry .capture .writing (some [3]) 2]
      (s.port 0).faultLine = false ∧ (s.port 0).state.runsFrames = true ∧
        ((s.list 0).map fun e => (e.ticket.ring, e.ticket.take)).Nodup ∧ s.writing = true) ∧
    ((ready.port 3).faultLine = false ∧ (ready.port 3).state = .off) ∧
    (((withPanel .faulted none).port 0).faultLine = false ∧ ((withPanel .faulted none).port 0).state = .faulted) := by
  decide +kernel

/-- A flush that withdraws a burst in flight and a waiting fetch. -/
theorem witness_FaultLines_flush :
    ((contended.port 0).faultLine = false ∧ (contended.port 0).state.runsFrames = true ∧
      ((contended.list 0).map fun e => (e.ticket.ring, e.ticket.take)).Nodup ∧
      (contended.port 0).state ≠ .draining) ∧
    contended.transfersApart ∧ flushedOwner 0 contended (.entry 0 .u 2) :=
  ⟨by decide +kernel, contended_apart rfl rfl rfl,
    ⟨entry .update .queued (some [1]) 2, by decide +kernel, by decide +kernel, rfl⟩⟩

/-! ### Registers and Device Control -/

theorem witness_RegisterWrites_reads :
    (State.reset.dev.resetAsserted = true ∧ (inState .init).dev.state = .init) ∧
    (ready.dev.resetAsserted = false ∧ ready.dev.state ≠ .init ∧ ready.causeFieldFits) := by
  unfold State.causeFieldFits
  decide +kernel

theorem witness_RegisterWrites : (5 : Word).getLsbD 1 = false ∧ (0xFFFFFFFD : Word).getLsbD 1 = false := by decide

/-- RESET_n asserted, INIT, SETUP and RESETTING; a setup read that ends with each outcome; a soft reset that can act. -/
theorem witness_SoftResetEntersResetting :
    (2 : Word).getLsbD 1 = true ∧ State.reset.dev.resetAsserted = true ∧ (inState .init).dev.state = .init ∧
    ((inState .setup).dev.resetAsserted = false ∧ (inState .setup).dev.state = .setup) ∧
    ((inState .resetting).dev.resetAsserted = false ∧ (inState .resetting).dev.state = .resetting) ∧
    (inSetup.dev.state = .setup ∧ inSetup.flight = some (flightOf .setup false 64) ∧ (setupBlock 63 0).length = 64) ∧
    (∀ d ∈ [DeviceState.halted, .active, .paused, .qfault],
      (inState d).dev.resetAsserted = false ∧ (inState d).dev.state = d) := by decide +kernel

theorem witness_SoftResetEntersResetting_requested :
    let s := inSetup.setDev { inSetup.dev with softResetRequested := true }
    s.dev.state = .setup ∧ s.dev.softResetRequested = true ∧ s.flight = some (flightOf .setup false 64) := by
  decide +kernel

/-- The transfer in flight: none, a ring's, a channel's; a slot OWNED and one FREE. -/
theorem witness_SoftResetEntersResetting_transfers :
    let s := bursting (fetch 0) 1 [entry .update .fetching (some [0]) 1]
    ready.flight = none ∧
    (∀ c, (flightOf (.ring .u) false 64).requester ≠ .channel c) ∧
    (s.flight = some (flightOf (.channel 0) false 1) ∧ s.channel 0 = .inFlight (fetch 0)) ∧
    s.slot 0 = .owned (.entry 0 .u 1) ∧ s.slot 23 = .free := by decide +kernel

/-- The panel clauses: with a frame; without one, at each balance; DRAINING; OFF and FAULTED. -/
theorem witness_SoftResetEntersResetting_panels :
    ((portIn .running (some smallFrame)).state.accepting = true ∧ (portIn .running (some smallFrame)).frame.isSome) ∧
    ((portIn .frozen none).state.accepting = true ∧ (portIn .frozen none).frame = none ∧
      (portIn .frozen none).balance = false ∧ windowApplied (portIn .frozen none) = some smallConfig) ∧
    ((withPanel .draining (some smallFrame)).port 0).state = .draining ∧
    ((withPanel .faulted none).port 0).state = .faulted ∧ (ready.port 1).state = .off := by decide +kernel

/-- Each field fails alone, the one named, and the valid block fails none. -/
theorem witness_SetupBlockChecks :
    setupFailing (setupBlock 63 0) = none ∧
    setupFailing (setupBlock 0 32) = some 1 ∧ setupFailing (setupBlock 24 17) = some 2 ∧
    setupFailing (setupBlock 8 1) = some 3 ∧ setupFailing (setupBlock 26 8) = some 4 ∧
    setupFailing (setupBlock 16 8) = some 5 ∧ setupFailing (setupBlock 29 32) = some 6 ∧
    setupFailing (setupBlock 30 65) = some 7 ∧ setupFailing (setupBlock 33 4) = some 8 ∧
    setupFailing (setupBlock 31 16) = some 9 ∧ setupFailing (setupBlock 63 1) = some 10 := by decide +kernel

theorem witness_FailedSetups :
    inSetup.dev.state = .setup ∧ inSetup.dev.softResetRequested = false ∧
      inSetup.flight = some (flightOf .setup false 64) ∧ (setupBlock 63 1).length = 64 ∧
      setupFailing (setupBlock 63 1) = some 10 := by decide +kernel

/-- The timebase runs at the block's REF_MHZ, at another, and is stopped. -/
theorem witness_ValidSetupTakesEffect :
    inSetup.dev.state = .setup ∧ inSetup.dev.softResetRequested = false ∧
      inSetup.flight = some (flightOf .setup false 64) ∧ (setupBlock 30 4).length = 64 ∧
      setupFailing (setupBlock 30 4) = none ∧ setupFailing (setupBlock 30 64) = none ∧
      (inSetup.tb.running = true ∧ inSetup.tb.refMhz = some (byteAt (setupBlock 63 0) 30)) ∧
      inSetup.tb.refMhz ≠ some (byteAt (setupBlock 30 4) 30) ∧
      (inSetup.setTb Timebase.reset).tb.running = false := by decide +kernel

theorem witness_QfaultAndResettingAreLeftOnlyAsTheSpecSays :
    (∀ d ∈ [DeviceState.qfault, .resetting], (inState d).dev.state = d ∧ (inState d).dev.resetAsserted = false ∧
      isNext (exec (.softReset 2) (inState d)) = true) := by decide +kernel

/-! ### Submission rings -/

/-- Ignored in HALTED and in RING_FAULT; 16 at the size; 15 below it; 0 empties. -/
theorem witness_TailWrites :
    ((inState .halted).dev.state ≠ .active ∧ (inState .halted).dev.state ≠ .paused ∧
      (inState .halted).dev.state ≠ .qfault) ∧
    ({ ready with ringU := { Ring.reset with state := .fault } }.ring .u).state = .fault ∧
    (ready.dev.state = .active ∧ (ready.ring .u).state ≠ .fault ∧ ready.ringSize .u ≤ (16 : Word).toNat ∧
      (15 : Word).toNat < ready.ringSize .u ∧ (ready.ring .u).head ≠ (15 : Word).toNat ∧
      (ready.ring .u).head = (0 : Word).toNat) := by decide +kernel

/-- A record read of ring U in flight, with one record in the ring, its timeout just due. -/
def reading : State :=
  { ready with flight := some (flightOf (.ring .u) false 64), ringU := { Ring.reset with tail := 1 } }

theorem witness_RingReadEnds :
    reading.flight = some (flightOf (.ring .u) false 64) ∧ (flightOf (.ring .u) false 64).write = false ∧
      (record 1 []).length = (flightOf (.ring .u) false 64).length ∧
      reading.burstTimeoutUs ≤ (flightOf (.ring .u) false 64).elapsed ∧ reading.dev.state = .active ∧
      (reading.ring .u).state ≠ .fault ∧ (reading.ring .u).head ≠ (reading.ring .u).tail := by decide +kernel

/-- Ring B holds a NOP too, with the pass-over count at `n`. -/
def bothHold (n : Nat) : State :=
  { holding (record 1 []) ready with ringB := { Ring.reset with tail := 1, holder := some (record 1 []) }, passOver := n }

theorem witness_ArbiterChoice :
    (ringAble (holding (record 1 []) ready) .u = true ∧ ringAble (holding (record 1 []) ready) .b = false) ∧
    (let s := { ready with ringB := { Ring.reset with tail := 1, holder := some (record 1 []) } };
      ringAble s .u = false ∧ ringAble s .b = true) ∧
    (ringAble (bothHold 2) .u = true ∧ ringAble (bothHold 2) .b = true ∧
      (bothHold 2).passOver < (bothHold 2).starvationLimit) ∧
    (ringAble (bothHold 3) .u = true ∧ ringAble (bothHold 3) .b = true ∧
      (bothHold 3).passOver = (bothHold 3).starvationLimit) ∧
    (ringAble ready .u = false ∧ ringAble ready .b = false) := by decide +kernel

theorem witness_NopUnknownKindAndReservedHeader : Held .nop (holding (record 1 []) ready) .u (record 1 []) :=
  held_of (by decide +kernel)

/-- Kind 0, and a FILL with a byte of its reserved header area set. -/
theorem witness_NopUnknownKindAndReservedHeader_clauses :
    (let s := holding (record 0 []) ready;
      chosenRing s = some .u ∧ (s.ring .u).holder = some (record 0 []) ∧ recordKind (record 0 []) = none) ∧
    (let b := (record 0x21 []).set 15 1; let s := holding b ready;
      chosenRing s = some .u ∧ (s.ring .u).holder = some b ∧ recordKind b = some .fill ∧ headerClear b = false) := by
  decide +kernel

/-- A SYNC with the record before it outstanding. -/
def waitingSync : State :=
  { ready with ringU := { Ring.reset with tail := 1, holder := some (record 2 []), take := 1, outstanding := [1] } }

theorem witness_SyncWaitsForEarlierRecords :
    Held .sync (holding (record 2 []) ready) .u (record 2 []) ∧
      (((holding (record 2 []) ready).ring .u).outstanding = [] ∧ ((holding (record 2 []) ready).ring .u).syncs = []) ∧
    Held .sync waitingSync .u (record 2 []) ∧ (waitingSync.ring .u).outstanding ≠ [] ∧
      syncDue waitingSync .u = false ∧
      ∀ n ∈ (waitingSync.ring .u).outstanding.head?, n ≠ (waitingSync.ring .u).take + 1 := by
  refine ⟨held_of (by decide +kernel), by decide +kernel, held_of (by decide +kernel), by decide +kernel,
    by decide +kernel, fun n hn => ?_⟩
  have h : (waitingSync.ring .u).outstanding.head? = some 1 := by decide +kernel
  rw [h] at hn
  cases hn
  decide +kernel

/-- Rect 8 by 2 at (0, 0), address 0x10000, stride 64. -/
def pictureBody : List Nat :=
  [0, 0, 0, 0, 0, 0, 8, 0, 2, 0, 0, 0, 0, 0, 0, 0, 0, 0, 1, 0, 0, 0, 0, 0, 64, 0, 0, 0]

def updateRecord : List Byte := record 0x20 pictureBody
def captureRecord : List Byte := record 0x22 pictureBody
def loadRecord : List Byte := record 0x30 [1, 4, 5, 2, 0, 0, 0, 0, 0, 0, 1]

/-- No slot is FREE. -/
def crowded (b : List Byte) : State :=
  { holding b (withPanel .running none) with slots := Vector.replicate 24 .reclaim }

theorem witness_ShortageOfSlotsStallsTheRing :
    Held .update (crowded updateRecord) .u updateRecord ∧ Held .capture (crowded captureRecord) .u captureRecord ∧
    Held .glyphLoad (crowded loadRecord) .u loadRecord ∧
    (byteAt updateRecord 16 = (0 : PanelId).val ∧ ((crowded updateRecord).port 0).state.accepting = true ∧
      ((crowded updateRecord).port 0).config = some smallConfig ∧
      (entryBody updateRecord).failing .update smallConfig = none ∧
      laterRefusal .update 0 (entryBody updateRecord) smallConfig (crowded updateRecord) = none ∧
      (crowded updateRecord).freeSlots.length < ceilDiv ((rectAt updateRecord 18).cost 1) 2048) ∧
    (byteAt loadRecord 16 = (1 : Fin 4).val ∧ ((crowded loadRecord).glyph 1).stateCode ≠ 1 ∧
      references 1 (crowded loadRecord) = 0 ∧ (loadBody loadRecord).failing = none ∧
      (crowded loadRecord).freeSlots.length <
        ceilDiv (13 * (ceilDiv (byteAt loadRecord 17) 8 * byteAt loadRecord 18)) 2048) :=
  ⟨held_of (by decide +kernel), held_of (by decide +kernel), held_of (by decide +kernel), by decide +kernel,
    by decide +kernel⟩

theorem witness_OnlyActiveTakesRecords :
    let s := holding (record 1 []) (inState .paused)
    s.dev.state ≠ .active ∧ (∃ t, exec .nop s = .next t) ∧ Instr.nop ≠ .resetNAssert ∧ ∀ a, Instr.nop ≠ .setupReadEnd a :=
  ⟨by decide +kernel, exists_of_isNext (by decide +kernel), by decide, fun a h => (by cases h)⟩

/-! ### Completion ring -/

def okCompletion : Completion where
  ticket := ticket 1
  status := .ok
  detailA := 0
  detailB := 0

/-- CPo with a queue, a RING_FAULT event of ring B, reservations and the event pointer at its last position. -/
def posting (q : List Completion) (e : Option RingCause) (n : Nat) (w : Written) : State :=
  { ready with cpo := { Poster.reset with
      phase := true, queue := q, ringFaultB := e, reserved := n, eventPointer := 37, lastWritten := w } }

/-- Nothing waiting; an event held back at 15 reservations of 15 free places; a completion with no event, with one held
back, and after an event; an event at 14 reservations, alone and after a completion. -/
theorem witness_ChoiceOfTheNextWrite :
    (ready.cpo.presented = none ∧ ready.posterInFlight = none ∧ (inState .qfault).writing = false ∧ ready.writing = true) ∧
    ((posting [] none 0 .event).nextEvent = none ∧ (posting [] (some .badTail) 15 .event).freePlaces ≤ 15) ∧
    ((posting [okCompletion] none 1 .completion).cpo.queue ≠ [] ∧ (posting [okCompletion] none 1 .completion).nextEvent = none) ∧
    (posting [okCompletion] (some .badTail) 1 .event).cpo.lastWritten = .event ∧
    ((posting [] (some .badTail) 14 .event).nextEvent = some (.ringFault .b) ∧
      14 < (posting [] (some .badTail) 14 .event).freePlaces) ∧
    (posting [okCompletion] (some .badTail) 1 .completion).cpo.lastWritten = .completion ∧
    (posting [] (some .badTail) 14 .event).cpo.eventPointer < 38 := by decide +kernel

/-- A choice to make after a command, nothing left to choose before it, and a presented event that is not set. -/
theorem witness_ChoiceOfTheNextWrite_made :
    (∃ t, exec .nop (holding (record 1 []) ready) = .next t ∧ t.writing = true) ∧
    (holding (record 1 []) ready).choiceMade ∧ Instr.nop ≠ .burstIssue ∧
    ((posting [] none 0 .event).setCpo { ready.cpo with presented := some (.event (.ringFault .b)) }).eventSet
      (.ringFault .b) = false := by
  refine ⟨⟨after .nop (holding (record 1 []) ready), ?_, by decide +kernel⟩, ?_, by decide, by decide +kernel⟩
  · obtain ⟨t, h⟩ := exists_of_isNext (o := exec .nop (holding (record 1 []) ready)) (by decide +kernel)
    simp [after, h]
  · unfold State.choiceMade
    decide +kernel

/-- CPo presents a completion, or an event. -/
def presenting (x : Presented) : State :=
  { ready with cpo := { Poster.reset with
      phase := true, queue := [okCompletion], reserved := 1, presented := some x, ringFaultU := some .badTail } }

theorem witness_PosterWritesAreIssuedFirst :
    (presenting .completion).flight = none ∧ (presenting .completion).dev.state = .active ∧
      (presenting .completion).cpo.presented = some .completion ∧
      (presenting .completion).cpo.queue = okCompletion :: [] ∧
      (presenting (.event (.ringFault .u))).cpo.presented = some (.event (.ringFault .u)) := by decide +kernel

theorem witness_PosterWritesAreIssuedFirst_event : (presenting (.event (.ringFault .u))).talliesLawful := by
  intro t
  have h : (presenting (.event (.ringFault .u))).tally t = Tally.reset := by
    revert t
    decide +kernel
  rw [h]
  exact ⟨fun d hd => (by cases hd), by decide, by decide⟩

/-- A completion of take 1 in flight, with a SYNC of take 2 behind it. -/
def completing (d : DeviceState) : State :=
  { inState d with
    flight := some (flightOf (.poster (.completion okCompletion)) true 16)
    ringU := { Ring.reset with take := 2, outstanding := [1, 2], syncs := [{ ticket := ticket 2, earlier := 1 }] }
    cpo := { Poster.reset with phase := true, reserved := 2 } }

theorem witness_WrittenRecordsMovePost :
    let s := completing .active
    s.flight = some (flightOf (.poster (.completion okCompletion)) true 16) ∧ s.dev.state = .active ∧
    (completing .resetting).dev.state = .resetting ∧
    ((s.ring .u).syncs = { ticket := ticket 2, earlier := 1 } :: [] ∧
      ((s.ring .u).outstanding.erase 1).head? = some 2) ∧
    (let s' := { s with ringU := { s.ringU with outstanding := [1, 3, 2] } };
      ∀ y ∈ (s'.ring .u).syncs.head?, ((s'.ring .u).outstanding.erase 1).head? ≠ some y.ticket.take) ∧
    (flightOf (.poster (.event (.panelFault 3))) true 16).requester = .poster (.event (.panelFault 3)) := by
  decide +kernel

theorem witness_FailedWritesEnterQfault :
    ∀ d ∈ [DeviceState.active, .paused, .qfault, .resetting],
      (completing d).flight = some (flightOf (.poster (.completion okCompletion)) true 16) ∧
        (completing d).burstTimeoutUs ≤ (flightOf (.poster (.completion okCompletion)) true 16).elapsed ∧
        (completing d).dev.state = d := by decide +kernel

/-- Two written entries: releasing both, none, one more than both, and the size itself. -/
theorem witness_ReleaseWrites :
    ∀ d ∈ [DeviceState.halted, .active, .paused, .qfault],
      let s := (inState d).setCpo { Poster.reset with post := 1, release := 15 }
      s.dev.state = d ∧ s.cpo.post < s.completionSize ∧ s.cpo.release < s.completionSize ∧
        ((1 : Word).toNat < s.completionSize ∧ ((1 : Word).toNat + s.completionSize - s.cpo.release) % s.completionSize ≤
            (s.cpo.post + s.completionSize - s.cpo.release) % s.completionSize) ∧
        ((15 : Word).toNat + s.completionSize - s.cpo.release) % s.completionSize ≤
            (s.cpo.post + s.completionSize - s.cpo.release) % s.completionSize ∧
        (s.cpo.post + s.completionSize - s.cpo.release) % s.completionSize <
          ((2 : Word).toNat + s.completionSize - s.cpo.release) % s.completionSize ∧
        s.completionSize ≤ (16 : Word).toNat := by decide +kernel

theorem witness_ReservationsStayWithinFreePlaces :
    let s := holding (record 1 []) (posting [] none 14 .event)
    (∃ t, exec Kind.nop.command s = .next t) ∧ s.completionsFit :=
  ⟨exists_of_isNext (by decide +kernel), by unfold State.completionsFit; decide +kernel⟩

theorem witness_ReservationsStayWithinFreePlaces_written :
    let s := completing .active
    (s.flight = some (flightOf (.poster (.completion okCompletion)) true 16) ∧ s.dev.state = .active ∧
      0 < s.cpo.reserved) ∧ s.completionsFit ∧ ∃ t, exec (.completionWriteEnd .ok) s = .next t :=
  ⟨by decide +kernel, by unfold State.completionsFit; decide +kernel, exists_of_isNext (by decide +kernel)⟩

/-! ### Bursts -/

/-- The first and the last byte of the fetch, and a burst that ends at a block. -/
theorem witness_BurstsStayInsideAlignedBlocks :
    (0 < (fetch 0).rowBytes ∧ (fetch 0).rowBytes ≤ (fetch 0).stride ∧ (fetch 1).done < (fetch 1).total) ∧
    ({ fetch 0 with address := 0x100FF, rowBytes := 64 }).burstLength = 1 := by decide +kernel

/-- Ring records in both rings, and channels LOADED. -/
def waiting (d : DeviceState) : State :=
  { (inState d).setChannel 1 (.loaded (fetch 0)) with
    ringU := { Ring.reset with tail := 1 }, ringB := { Ring.reset with tail := 1 }, rrNext := 2 }

/-- The setup read; ring U with both waiting, ring B with U held; channel 1, the last from the pointer 2. -/
theorem witness_ArbiterOrder :
    (let s := (waiting .setup).setDev { (waiting .setup).dev with setupRead := some 0xFFFFFFFFFFFFFFC0 };
      s.flight = none ∧ s.cpo.presented = none ∧ s.dev.state = .setup ∧ s.dev.setupRead = some 0xFFFFFFFFFFFFFFC0) ∧
    ((waiting .active).dev.state = .active ∧ ((waiting .active).ring .u).state = .running ∧
      ((waiting .active).ring .u).holder = none ∧ ((waiting .active).ring .u).head ≠ ((waiting .active).ring .u).tail) ∧
    (holding (record 1 []) (waiting .active)).ringU.holder.isSome ∧
    ((waiting .qfault).dev.state = .qfault ∧ (waiting .qfault).channel ((waiting .qfault).rrNext + 3) = .loaded (fetch 0)) ∧
    ∀ d ∈ [DeviceState.init, .halted, .resetting], (waiting d).dev.state = d ∧ (waiting d).flight = none := by
  decide +kernel

theorem witness_ArbiterOrder_pointer :
    ∀ j : Fin 4, j < 3 → ∀ op, (waiting .qfault).channel ((waiting .qfault).rrNext + j) ≠ .loaded op := by
  intro j hj op h
  have hf : ∀ j : Fin 4, j < 3 → (waiting .qfault).channel ((waiting .qfault).rrNext + j) = .free := by decide +kernel
  rw [hf j hj] at h
  cases h

/-- A burst with bytes left after it, and the last one. -/
theorem witness_FetchBurstsStageTheirBytes :
    ∀ n ∈ [0, 1],
      let s := bursting (fetch n) 1 [entry .update .fetching (some [0]) 1]
      s.flight = some (flightOf (.channel 0) false 1) ∧ s.channel 0 = .inFlight (fetch n) ∧
        (fetch n).burstLength = 1 ∧ s.staging.wf = true ∧ (fetch n).slots.Nodup ∧
        (fetch n).done + (fetch n).burstLength ≤ 2048 * (fetch n).slots.length ∧
        ((fetch n).done + (fetch n).burstLength < (fetch n).total ↔ n = 0) ∧
        (∀ e ∈ s.list 0, e.isOf .u 1 = true ∧ e.state = .fetching) ∧ s.waitQueue = [] := by decide +kernel

/-- An UPDATE's fetch and a CAPTURE's write-back, each with the timeout just due. -/
theorem witness_FailedBurstsEndTheirEntries :
    (let s := bursting (fetch 1) 1 [entry .update .fetching (some [0]) 1];
      s.channel 0 = .inFlight (fetch 1) ∧ s.dev.state = .active ∧
        findEntry 0 .u 1 s = some (entry .update .fetching (some [0]) 1) ∧
        s.burstTimeoutUs ≤ (flightOf (.channel 0) false 1).elapsed ∧ s.slot 0 = .owned (.entry 0 .u 1) ∧
        s.slot 1 ≠ .owned (.entry 0 .u 1)) ∧
    (let s := bursting { fetch 1 with write := true } 1 [entry .capture .writing (some [0]) 1];
      s.channel 0 = .inFlight { fetch 1 with write := true } ∧ s.dev.state = .active ∧
        findEntry 0 .u 1 s = some (entry .capture .writing (some [0]) 1)) := by decide +kernel

/-- The 65 bytes of a glyph load in one burst. -/
def glyphFetch : Operation where
  owner := .glyph 2
  write := false
  address := 0x10000
  stride := 65
  rowBytes := 65
  rows := 1
  slots := [0]
  done := 0

theorem witness_GlyphLoadsEnd :
    let s := (bursting glyphFetch 65 []).setGlyph 2 (.loading 4 5 2 (ticket 1) [0])
    s.flight = some (flightOf (.channel 0) false 65) ∧ s.channel 0 = .inFlight glyphFetch ∧
      s.glyph 2 = .loading 4 5 2 (ticket 1) [0] ∧ s.dev.state = .active ∧
      glyphFetch.total ≤ glyphFetch.done + glyphFetch.burstLength ∧
      s.burstTimeoutUs ≤ (flightOf (.channel 0) false 65).elapsed := by decide +kernel

theorem witness_WriteBacksEnd :
    ∀ n ∈ [0, 1],
      let op := { fetch n with write := true }
      let s := bursting op 1 [entry .capture .writing (some [0]) 1]
      s.flight = some (flightOf (.channel 0) true 1) ∧ s.channel 0 = .inFlight op ∧
        findEntry 0 .u 1 s = some (entry .capture .writing (some [0]) 1) ∧ s.dev.state = .active ∧
        (op.done + op.burstLength < op.total ↔ n = 0) := by decide +kernel

/-- Slot 0 RECLAIM, 22 FREE of 24, ring U stalled for all 23 that then are FREE and ring B for 24. -/
def orphaned (write : Bool) : State :=
  { ready with
    flight := some (flightOf (.orphan { fetch 0 with write := write }) write 1)
    slots := ((Vector.replicate 24 SlotState.free).set 0 .reclaim).set 1 (.owned (.glyph 3))
    ringU := { Ring.reset with state := .stalled 23 }
    ringB := { Ring.reset with state := .stalled 24 } }

theorem witness_OrphanBurstsFreeTheirSlots :
    (orphaned true).flight = some (flightOf (.orphan { fetch 0 with write := true }) true 1) ∧
    (orphaned false).burstTimeoutUs ≤ (flightOf (.orphan (fetch 0)) false 1).elapsed ∧
    (([] : List Byte).length = if (flightOf (.orphan (fetch 0)) true 1).write then 0 else 1) ∧
    (([0x55] : List Byte).length = if (flightOf (.orphan (fetch 0)) false 1).write then 0 else 1) ∧
    ((orphaned false).staging.wf = true ∧ (fetch 0).slots.Nodup ∧
      (fetch 0).done + ([0x55] : List Byte).length ≤ 2048 * (fetch 0).slots.length) ∧
    (orphaned false).slot 0 = .reclaim ∧ (orphaned false).slot 1 ≠ .reclaim ∧
    (let t := after (.orphanBurstEnd .busError) (orphaned false);
      ((orphaned false).ring .u).state = .stalled 23 ∧ 23 ≤ t.freeSlots.length ∧
        ((orphaned false).ring .b).state = .stalled 24 ∧ t.freeSlots.length < 24) := by decide +kernel

/-- 99 us of 100 and 100 of 100, for each requester. -/
theorem witness_TimeoutsAndLateAnswers :
    ({ flightOf (.ring .u) false 64 with elapsed := 99 }).elapsed < reading.burstTimeoutUs ∧
    (reading.flight = some (flightOf (.ring .u) false 64) ∧ reading.burstTimeoutUs ≤ 100 ∧
      reading.dev.state = .active ∧ (reading.ring .u).state = .running ∧
      (reading.ring .u).head ≠ (reading.ring .u).tail) ∧
    (completing .active).flight = some (flightOf (.poster (.completion okCompletion)) true 16) ∧
    (orphaned false).flight = some (flightOf (.orphan { fetch 0 with write := false }) false 1) ∧
    (let s := bursting (fetch 0) 1 [entry .update .fetching (some [0]) 1];
      s.flight = some (flightOf (.channel 0) false 1) ∧ s.channel 0 = .inFlight (fetch 0)) := by decide +kernel

/-! ### Frames and pictures -/

/-- A RUNNING and a FROZEN panel between frames, a window pending. -/
theorem witness_BoundariesBeginFrames :
    ∀ x ∈ [PanelState.running, .frozen],
      let s := ready.setPort 0 { portIn x none with pendingWindow := some (7, 7) }
      (s.port 0).frame = none ∧ (s.port 0).state = x ∧ (s.port 0).config = some smallConfig ∧
        windowApplied (s.port 0) = some (smallConfig.setWindow (7, 7)) := by decide +kernel

/-- FILLs of 2, 2047 and 1 bytes: the first commits, the second would pass the budget of 2048, and the third, which does
not meet it, fits. -/
def walking : State :=
  (withPanel .running none).setList 0 [
    entry .fill .ready none 1,
    { entry .fill .ready none 2 with rect := { x := 0, y := 4, w := 8, h := 1 }, cost := 2047 },
    { entry .fill .ready none 3 with rect := { x := 8, y := 4, w := 8, h := 1 }, cost := 1 }]

theorem witness_WalksCommitInListOrderWithinTheBudget :
    (walking.port 0).frame = none ∧ (walking.port 0).state = .running ∧ (walking.port 0).config = some smallConfig ∧
    (let t := after (.frameBoundary 0) walking;
      (List.range 3).map (committedNow (walking.list 0) (t.list 0)) = [true, false, true] ∧
        (walking.list 0)[0]? = some (entry .fill .ready none 1)) := by decide +kernel

/-- A QUEUED entry holds back the READY one that meets it, and not the one beside it. -/
def blocking : State :=
  (withPanel .running none).setList 0 [
    entry .update .queued (some [0]) 1,
    { entry .fill .ready none 2 with rect := { x := 7, y := 1, w := 1, h := 1 }, cost := 1 },
    { entry .fill .ready none 3 with rect := { x := 8, y := 1, w := 1, h := 1 }, cost := 1 }]

theorem witness_WalksCommitInListOrderWithinTheBudget_blocking :
    (blocking.port 0).frame = none ∧ (blocking.port 0).state = .running ∧ (blocking.port 0).config = some smallConfig ∧
    (List.range 3).map (committedNow (blocking.list 0) ((after (.frameBoundary 0) blocking).list 0)) =
      [false, false, true] := by decide +kernel

theorem witness_BoundariesDrawCommitsAndBindings_entries :
    (let s := (withPanel .running none).setList 0 [entry .fill .ready none 1];
      s.list 0 = [entry .fill .ready none 1] ∧ (entry .fill .ready none 1).shade = some 1 ∧
        (s.port 0).frame = none ∧ (s.port 0).state = .running ∧ (s.port 0).config = some smallConfig ∧
        smallConfig.depth = 1 ∧ (s.staging.wf = true ∧ ∀ p, (s.region p).wf = true)) ∧
    (∀ k ∈ [EntryKind.update, .capture],
      let e := entry k .ready (some [0]) 1
      e.slots = some [0] ∧ ([0] : List (Fin 24)).Nodup ∧ e.address = some 0x10000 ∧ e.stride = some 64 ∧
        e.cost = (e.rect.w * smallConfig.depth + 7) / 8 * e.rect.h ∧ e.cost ≤ 2048 * 1 ∧ 1 ≤ e.rect.h ∧
        e.rect.x + e.rect.w ≤ 512) := by decide +kernel

/-- A FILL, a CAPTURE of its pixels and an UPDATE over them, all READY, behind a COMMITTED UPDATE. -/
def mixed : List Entry :=
  [entry .update .committed none 1, entry .fill .ready none 2, entry .capture .ready (some [0]) 3,
    entry .update .ready (some [1]) 4]

theorem witness_BoundariesDrawCommitsAndBindings_mixed :
    (∀ e ∈ ((withPanel .running none).setList 0 mixed).list 0, e.state = .ready → e.drawable smallConfig.depth) ∧
    slotsApart (((withPanel .running none).setList 0 mixed).list 0) ∧
    (let t := after (.frameBoundary 0) ((withPanel .running none).setList 0 mixed);
      (commitsBefore mixed (t.list 0) 4).map (·.kind) = [.fill, .capture, .update]) := by
  have h : ((withPanel .running none).setList 0 mixed).list 0 = mixed := by decide +kernel
  rw [h]
  refine ⟨fun e he hr => ?_, fun i j e f a b hij hi hj ha hb => ?_, by decide +kernel⟩
  · simp only [mixed, List.mem_cons, List.not_mem_nil, or_false] at he
    obtain rfl | rfl | rfl | rfl := he
    · cases hr
    · exact ⟨by decide, by decide, by decide, fun h => absurd rfl h, fun h => absurd rfl h⟩
    · exact ⟨by decide, by decide, by decide, by decide, fun _ => ⟨[0], rfl, by decide, by decide⟩⟩
    · exact ⟨by decide, by decide, by decide, by decide, fun _ => ⟨[1], rfl, by decide, by decide⟩⟩
  · have hk : ∀ (n : Nat) (x : Entry) (l : List (Fin 24)), mixed[n]? = some x → x.slots = some l →
        n = 2 ∧ l = [0] ∨ n = 3 ∧ l = [1] := by
      intro n x l hn hl
      match n with
      | 0 => cases hn; cases hl
      | 1 => cases hn; cases hl
      | 2 => cases hn; cases hl; exact .inl ⟨rfl, rfl⟩
      | 3 => cases hn; cases hl; exact .inr ⟨rfl, rfl⟩
      | n + 4 => simp [mixed] at hn
    obtain ⟨rfl, rfl⟩ | ⟨rfl, rfl⟩ := hk i e a hi ha <;> obtain ⟨rfl, rfl⟩ | ⟨rfl, rfl⟩ := hk j f b hj hb
    · exact absurd rfl hij
    · decide
    · decide
    · exact absurd rfl hij

/-- No binding is present. -/
theorem no_binding {s : State} (h : s.bindings = State.reset.bindings) (k : TallyId) (i : Fin 2) :
    s.binding k i = none := by
  unfold State.binding
  rw [h]
  revert k i
  decide +kernel

theorem witness_BoundariesDrawCommitsAndBindings_clean :
    ∀ k i b, ((withPanel .running none).setList 0 [entry .fill .ready none 1]).binding k i = some b → b.panel = 0 →
      b.dirty = false := by
  intro k i b h
  have h' := no_binding (s := (withPanel .running none).setList 0 [entry .fill .ready none 1]) rfl k i
  rw [h'] at h
  cases h

/-- The binding of tally 0 alone, dirty. -/
def bound : State :=
  ((((withPanel .running none).setTally 0 { defn := some (smallTally .running 1), endCount := 0, watchCount := 0 }).setGlyph
    0 smallGlyphs).setBinding 0 0 (some smallBinding))

theorem witness_BoundariesDrawCommitsAndBindings_binding :
    bound.list 0 = [] ∧ bound.binding 0 0 = some smallBinding ∧ bound.glyph 0 = smallGlyphs ∧
      (bound.tally 0).defn = some (smallTally .running 1) ∧ smallBinding.rect.x + smallBinding.rect.w ≤ 512 ∧
      smallBinding.rect.w = (smallTally .running 1).value.length * smallBinding.pitch ∧
      (∀ k i, bound.binding k i ≠ none → k = 0 ∧ i = 0) := by decide +kernel

/-- Two digits with a colon between them: 4, 2 and 4 columns. -/
def colonBinding : Binding := { smallBinding with rect := { x := 0, y := 0, w := 10, h := 5 }, separators := [.colon] }

def twoDigits : TallyDef := { smallTally .running 1 with moduli := [3, 3], value := [1, 2], watch := none }

def boundTwo : State := (bound.setTally 0 { defn := some twoDigits, endCount := 0, watchCount := 0 }).setBinding 0 0 colonBinding

/-- R142: the colon's top row is lit in columns 4 and 5, between the cells of the digits. -/
theorem witness_BoundariesDrawCommitsAndBindings_separator :
    (boundTwo.list 0 = [] ∧ boundTwo.binding 0 0 = some colonBinding ∧ (boundTwo.tally 0).defn = some twoDigits ∧
      colonBinding.rect.w = 2 * colonBinding.pitch + separatorsLeftOf colonBinding 2 0 * 2 ∧
      colonBinding.separators.getD 0 .none = .colon ∧
      (∀ k i, boundTwo.binding k i ≠ none → k = 0 ∧ i = 0)) ∧
    (digitColumn colonBinding 2 2 1 = 0 ∧ digitColumn colonBinding 2 2 0 = 6) ∧
    (let t := after (.frameBoundary 0) boundTwo;
      [0, 3, 4, 5, 6].map (fun x => (t.region 0).shade x 0) = [1, 1, 1, 1, 1] ∧ (t.region 0).shade 4 1 = 0) := by
  decide +kernel

/-- The first row one us early and just due, and the last row. -/
theorem witness_RowTransfersSendLitPixels :
    let s := withPanel .running (some { smallFrame with elapsed := 8 })
    (s.port 0).config = some smallConfig ∧ (s.port 0).frame = some { smallFrame with elapsed := 8 } ∧
      7 < (smallConfig.blankRows + smallFrame.rowsDone + 1) * smallConfig.rowTime ∧
      (smallConfig.blankRows + smallFrame.rowsDone + 1) * smallConfig.rowTime ≤ 8 ∧
      smallFrame.rowsDone ≤ smallFrame.last - smallFrame.first ∧
      ({ smallFrame with rowsDone := 7 }).rowsDone ≤ smallFrame.last - smallFrame.first := by decide +kernel

/-- R99: 3 us and 4 us into a blank interval of 4; OFF. -/
theorem witness_RowTransfersSendLitPixels_levels :
    let s := withPanel .running (some { smallFrame with elapsed := 4 })
    ((s.port 0).state.runsFrames = true ∧ smallConfig.blankRows * smallConfig.rowTime ≤ 4 ∧
      3 < smallConfig.blankRows * smallConfig.rowTime ∧ (ready.port 0).state = .off) ∧
    ((s.port 0).levels [(1, 1)]).lanes.take 2 = [[false, false, false, false], [true, false, false, false]] ∧
    ((s.port 0).levels [(1, 1)]).clock = 16 := by decide +kernel

/-- Every row transferred, in each state that runs frames, at each balance, with an entry to show. -/
theorem witness_FrameEndsShowAndMoveThePanel :
    ∀ x ∈ [PanelState.starting, .running, .frozen, .draining], ∀ v ∈ [false, true],
      let s := (ready.setPort 0 { portIn x (some { smallFrame with rowsDone := 8 }) with balance := v }).setList 0
        [entry .fill .committed none 1]
      (s.port 0).frame = some { smallFrame with rowsDone := 8 } ∧
        smallFrame.last - smallFrame.first < ({ smallFrame with rowsDone := 8 }).rowsDone ∧
        ((s.list 0).map fun e => (e.ticket.ring, e.ticket.take)).Nodup ∧ s.writing = true ∧ (s.port 0).state = x ∧
        (s.port 0).balance = v ∧ windowApplied (s.port 0) = some smallConfig := by decide +kernel

theorem witness_PicturesChangeOnlyWhereTheSpecSays : ∃ t, exec (.frameBoundary 0) lit = .next t :=
  exists_of_isNext (by decide +kernel)

/-! ### Panel commands -/

/-- A PANEL_CONFIG of smallConfig for panel `p`, with one byte of its body replaced. -/
def configRecord (i v : Nat) : List Byte :=
  record 0x10 ([0, 0, 16, 0, 8, 0, 1, 1, 4, 0, 1, 0, 0, 0, 7, 0, 1, 1, 15, 15].set i v)

/-- Panel 4 and panel 0; OFF and not; the boundaries of field 2 on one side and field 9 on the other; a panel that one
zone names. -/
theorem witness_PanelConfigRecords :
    Held .panelConfig (holding (configRecord 0 4) ready) .u (configRecord 0 4) ∧ 3 < byteAt (configRecord 0 4) 16 ∧
    Held .panelConfig (holding (configRecord 0 0) ready) .u (configRecord 0 0) ∧
    (byteAt (configRecord 0 0) 16 = (0 : PanelId).val ∧ ((holding (configRecord 0 0) ready).port 0).state = .off ∧
      ((holding (configRecord 0 0) (withPanel .faulted none)).port 0).state ≠ .off) ∧
    (let s := holding (configRecord 0 0) (ready.setZone 0 (some { panel := 0, rect := ⟨0, 0, 8, 2⟩, group := 0 }));
      (List.finRange 16).countP (fun z => (s.zone z).any fun v => v.panel == 0) = 1 ∧
      (List.finRange 16).countP (fun z => ((ready).zone z).any fun v => v.panel == 0) = 0) :=
  ⟨held_of (by decide +kernel), by decide +kernel, held_of (by decide +kernel), by decide +kernel, by decide +kernel⟩

/-- Every field of `configRecord 0 0` passes; width 7 fails field 2; window last 8 fails field 9 alone. -/
theorem witness_PanelConfigRecords_fields :
    (∀ n, 2 ≤ n → n ≤ 13 → configFieldPasses (configRecord 0 0) n) ∧
    ¬configFieldPasses (configRecord 2 7) 2 ∧
    (¬configFieldPasses (configRecord 14 8) 9 ∧ ∀ m, 2 ≤ m → m < 9 → configFieldPasses (configRecord 14 8) m) := by
  refine ⟨fun n h h' => ?_, ?_, ?_, fun m h h' => ?_⟩
  · interval_cases n <;> (simp only [configFieldPasses]; decide +kernel)
  · simp only [configFieldPasses]; decide +kernel
  · simp only [configFieldPasses]; decide +kernel
  · interval_cases m <;> (simp only [configFieldPasses]; decide +kernel)

/-- A held record of panel 0, and one of panel 4, for each of the four panel commands. -/
theorem witness_PanelRecords_held :
    (∀ x ∈ [PanelState.off, .starting, .running, .frozen, .draining, .faulted], ∀ v ∈ [0, 4],
      chosenRing (holding (record 0x11 [v]) (withPanel x none)) = some .u ∧
        ((holding (record 0x11 [v]) (withPanel x none)).port 0).state = x) ∧
    (∀ v ∈ [0, 4], recordKind (record 0x11 [v]) = some .panelStart ∧ headerClear (record 0x11 [v]) = true ∧
      recordKind (record 0x12 [v]) = some .panelStop ∧ headerClear (record 0x12 [v]) = true ∧
      recordKind (record 0x13 [v]) = some .panelHold ∧ headerClear (record 0x13 [v]) = true ∧
      recordKind (record 0x14 [v]) = some .panelWindow ∧ headerClear (record 0x14 [v]) = true ∧
      byteAt (record 0x11 [v]) 16 = v) := by decide +kernel

/-- Unconfigured OFF, DRAINING, FAULTED under the line; RUNNING and FROZEN; STARTING; OFF and FAULTED with the line
released; OFF with it asserted. -/
theorem witness_PanelStartRecords :
    Held .panelStart (holding (record 0x11 [0]) (withPanel .off none)) .u (record 0x11 [0]) ∧
    ((ready.port 0).state = .off ∧ (ready.port 0).config = none) ∧
    (let o := { portIn .faulted none with faultLine := true };
      o.state = .faulted ∧ o.faultLine = true) ∧
    ((portIn .off none).state = .off ∧ (portIn .off none).faultLine = false ∧
      windowApplied (portIn .off none) = some smallConfig) ∧
    (let s := ((ready.setPort 0 { portIn .off none with faultLine := true }).setList 0
        [entry .capture .writing (some [0]) 1, entry .capture .writing (some [1]) 2]);
      (s.port 0).faultLine = true ∧ ((s.list 0).map fun e => (e.ticket.ring, e.ticket.take)).Nodup) :=
  ⟨held_of (by decide +kernel), by decide +kernel, by decide +kernel, by decide +kernel, by decide +kernel⟩

/-- RUNNING with a frame and between frames, FAULTED with the line released and asserted, at each balance. -/
theorem witness_PanelStopRecords :
    Held .panelStop (holding (record 0x12 [0]) (withPanel .running none)) .u (record 0x12 [0]) ∧
    (∀ f ∈ [none, some smallFrame], ∀ v ∈ [false, true],
      let o := { portIn .running f with balance := v }
      o.state.accepting = true ∧ o.balance = v ∧ windowApplied o = some smallConfig) ∧
    (∀ v ∈ [false, true], ({ portIn .faulted none with faultLine := v }).faultLine = v) ∧
    (let l := [entry .fill .committed none 1, entry .update .ready (some [0]) 2];
      (l.map fun e => (e.ticket.ring, e.ticket.take)).Nodup) :=
  ⟨held_of (by decide +kernel), by decide +kernel, by decide +kernel, by decide +kernel⟩

theorem witness_PanelStopRecords_flush :
    let s := holding (record 0x12 [0]) contended
    Held .panelStop s .u (record 0x12 [0]) ∧ s.transfersApart ∧
      ((s.port 0).state.accepting = true ∧ ((s.list 0).map fun e => (e.ticket.ring, e.ticket.take)).Nodup) :=
  ⟨held_of (by decide +kernel), contended_apart rfl rfl rfl, by decide +kernel⟩

/-- PANEL_HOLD 0, 1 and 2; PANEL_WINDOW 7 to 7, 8 to 8 and 7 to 6 on 8 rows. -/
theorem witness_PanelHoldAndWindowRecords :
    Held .panelHold (holding (record 0x13 [0, 1]) (withPanel .running none)) .u (record 0x13 [0, 1]) ∧
    Held .panelWindow (holding (record 0x14 [0, 0, 7, 0, 7, 0]) (withPanel .running none)) .u
      (record 0x14 [0, 0, 7, 0, 7, 0]) ∧
    (byteAt (record 0x13 [0, 2]) 17 = 2 ∧ byteAt (record 0x13 [0, 1]) 17 = 1) ∧
    (field16 (record 0x14 [0, 0, 7, 0, 7, 0]) 18 = 7 ∧ field16 (record 0x14 [0, 0, 7, 0, 7, 0]) 20 = 7 ∧
      7 < smallConfig.height) ∧
    smallConfig.height ≤ field16 (record 0x14 [0, 0, 8, 0, 8, 0]) 18 ∧
    field16 (record 0x14 [0, 0, 7, 0, 6, 0]) 20 < field16 (record 0x14 [0, 0, 7, 0, 6, 0]) 18 ∧
    smallConfig.height ≤ field16 (record 0x14 [0, 0, 7, 0, 8, 0]) 20 ∧ (ready.port 0).config = none :=
  ⟨held_of (by decide +kernel), held_of (by decide +kernel), by decide +kernel, by decide +kernel, by decide +kernel,
    by decide +kernel, by decide +kernel, by decide +kernel⟩

/-! ### Picture commands -/

def fillRecord : List Byte := record 0x21 [0, 0, 0, 0, 0, 0, 8, 0, 2, 0, 1]

theorem no_clash {s : State} (h : s.bindings = State.reset.bindings) (p : PanelId) (q : Rect) (t : TallyId) (i : Fin 2) :
    ¬clashes s p q t i := by
  rintro ⟨b, hb, -⟩
  rw [no_binding h] at hb
  cases hb

/-- Each kind, on a panel with 31 entries and slot 0 the lowest of 24 FREE. -/
theorem witness_EntriesAreAccepted :
    ∀ kb ∈ [(EntryKind.update, Kind.update, updateRecord), (.fill, .fill, fillRecord), (.capture, .capture, captureRecord)],
      let l := (List.range 31).map fun n => entry .fill .ready none (word (n + 2))
      let s := holding kb.2.2 ((withPanel .running none).setList 0 l)
      (chosenRing s = some .u ∧ recordKind kb.2.2 = some kb.2.1 ∧ headerClear kb.2.2 = true) ∧
        byteAt kb.2.2 16 = (0 : PanelId).val ∧ (s.port 0).state.accepting = true ∧
        (s.port 0).config = some smallConfig ∧ entryCost kb.2.2 smallConfig ≤ 16384 ∧
        (entryCost kb.2.2 smallConfig + 2047) / 2048 ≤ s.freeSlots.length ∧ (s.list 0).length < 32 ∧
        (∀ e ∈ s.list 0, e.isOf .u ((s.ring .u).take + 1) = false) ∧ s.waitQueue = [] := by decide +kernel

theorem witness_EntriesAreAccepted_fields :
    (∀ n, entryFieldPasses .update updateRecord smallConfig n) ∧ (∀ n, entryFieldPasses .fill fillRecord smallConfig n) ∧
    (∀ n, entryFieldPasses .capture captureRecord smallConfig n) ∧
    ∀ t i, ¬clashes (holding updateRecord (withPanel .running none)) 0 (rectAt updateRecord 18) t i := by
  refine ⟨fun n => ?_, fun n => ?_, fun n => ?_, no_clash rfl 0 _⟩
  all_goals
    match n with
    | 2 => simp only [entryFieldPasses]; decide +kernel
    | 3 => simp only [entryFieldPasses]; decide +kernel
    | 4 => simp only [entryFieldPasses] <;> decide +kernel
    | 0 => trivial
    | 1 => trivial
    | n + 5 => trivial

/-- A column too many (field 2), a shade too high (field 3), a stride of 0 (field 4), 16 386 bytes, and a list of 32. -/
theorem witness_EntriesAreRefused :
    ¬entryFieldPasses .update (record 0x20 (pictureBody.set 2 9)) smallConfig 2 ∧
    (entryFieldPasses .fill (record 0x21 [0, 0, 0, 0, 0, 0, 8, 0, 2, 0, 2]) smallConfig 2 ∧
      ¬entryFieldPasses .fill (record 0x21 [0, 0, 0, 0, 0, 0, 8, 0, 2, 0, 2]) smallConfig 3) ∧
    ¬entryFieldPasses .update (record 0x20 (pictureBody.set 24 0)) smallConfig 4 ∧
    entryFieldPasses .update (record 0x20 (pictureBody.set 24 0)) smallConfig 3 ∧
    16384 < entryCost (record 0x20 [0, 0, 0, 0, 0, 0, 0, 2, 129, 0]) { smallConfig with depth := 2 } ∧
    entryCost (record 0x20 [0, 0, 0, 0, 0, 0, 0, 2, 128, 0]) { smallConfig with depth := 2 } = 16384 ∧
    32 ≤ ((full.list 0).length) := by
  refine ⟨?_, ⟨?_, ?_⟩, ?_, ?_, ?_, ?_, ?_⟩ <;> (try simp only [entryFieldPasses]) <;> decide +kernel

/-- The binding of tally 0 slot 0 is the lowest that an entry at (0, 0) meets. -/
theorem witness_EntriesAreRefused_conflict :
    let s := holding updateRecord bound
    Held .update s .u updateRecord ∧ clashes s 0 (rectAt updateRecord 18) 0 0 ∧
      ∀ t' i', t' < (0 : TallyId) ∨ t' = 0 ∧ i' < (0 : Fin 2) → ¬clashes s 0 (rectAt updateRecord 18) t' i' :=
  ⟨held_of (by decide +kernel), ⟨smallBinding, by decide +kernel, rfl, by decide +kernel⟩, fun t' i' h => by
    exfalso
    revert t' i'
    decide +kernel⟩

/-- CANCEL of tag 7: scope 4, one panel, ALL with a load; a list of a READY and a COMMITTED entry, and an empty one. -/
def cancelRecord (scope : Nat) : List Byte := record 0x23 [7, 0, 0, 0, scope]

def cancelling : State :=
  ((withPanel .running none).setList 0 [entry .fill .ready none 1, entry .fill .committed none 2]).setGlyph 2
    (.loading 4 5 2 (ticket 3) [0])

theorem witness_CancelRecords :
    Held .cancel (holding (cancelRecord 255) cancelling) .u (cancelRecord 255) ∧
    (3 < byteAt (cancelRecord 4) 20 ∧ byteAt (cancelRecord 4) 20 ≠ 255) ∧
    (byteAt (cancelRecord 255) 20 = 255 ∧ byteAt (cancelRecord 3) 20 = (3 : PanelId).val) ∧
    (((cancelling.list 0).filter fun e =>
        e.ticket.tag.toNat = field32 (cancelRecord 255) 16 ∧ e.state ≠ .committed ∧ e.state ≠ .writing) =
      [entry .fill .ready none 1]) ∧
    (∀ p, ((cancelling.list p).map fun e => (e.ticket.ring, e.ticket.take)).Nodup) ∧ cancelling.flight = none ∧
    ∀ i, cancelling.channel i = .free :=
  ⟨held_of (by decide +kernel), by decide +kernel, by decide +kernel, by decide +kernel, by decide +kernel,
    by decide +kernel, by decide +kernel⟩

/-- A burst in flight and a waiting fetch, both of the target tag. -/
theorem witness_CancelRecords_transfers :
    let s := holding (cancelRecord 0) contended
    Held .cancel s .u (cancelRecord 0) ∧ s.transfersApart ∧
      (byteAt (cancelRecord 0) 20 = (0 : PanelId).val ∧
        (∀ p, ((s.list p).map fun e => (e.ticket.ring, e.ticket.take)).Nodup) ∧
        ((s.list 0).filter fun e =>
          e.ticket.tag.toNat = field32 (cancelRecord 0) 16 ∧ e.state ≠ .committed ∧ e.state ≠ .writing).length = 2) :=
  ⟨held_of (by decide +kernel), contended_apart rfl rfl rfl, by decide +kernel⟩

/-! ### Glyphs and bindings -/

/-- 32 by 48 pixels, separators as wide, at the highest address that fits; and one above it. -/
theorem witness_GlyphLoadRecords :
    Held .glyphLoad (holding loadRecord ready) .u loadRecord ∧
    (byteAt loadRecord 16 = (1 : Fin 4).val ∧ byteAt loadRecord 17 = 4 ∧ byteAt loadRecord 18 = 5 ∧
      byteAt loadRecord 19 = 2) ∧
    (3 < byteAt (record 0x30 [4]) 16 ∧ byteAt (record 0x30 [0, 3]) 17 < 4 ∧ 32 < byteAt (record 0x30 [0, 33]) 17 ∧
      byteAt (record 0x30 [0, 32, 4]) 18 < 5 ∧ 48 < byteAt (record 0x30 [0, 32, 49]) 18 ∧
      byteAt (record 0x30 [0, 32, 48, 0]) 19 < 1 ∧ 32 < byteAt (record 0x30 [0, 32, 48, 33]) 19) ∧
    (field64 (record 0x30 [0, 32, 48, 32, 0, 0, 0, 0, 0x40, 0xF6, 0xFF, 0xFF, 0xFF, 0xFF, 0xFF, 0xFF]) 24 +
        13 * ((32 + 7) / 8 * 48) = 2 ^ 64 ∧
      2 ^ 64 < field64 (record 0x30 [0, 32, 48, 32, 0, 0, 0, 0, 0x41, 0xF6, 0xFF, 0xFF, 0xFF, 0xFF, 0xFF, 0xFF]) 24 +
        13 * ((32 + 7) / 8 * 48)) ∧
    ((13 * ((32 + 7) / 8 * 48) + 2047) / 2048 ≤ ready.freeSlots.length ∧ ready.waitQueue = []) ∧
    cancelling.glyph 2 = .loading 4 5 2 (ticket 3) [0] ∧
    (List.finRange 32).countP (fun i => bound.bindings[i].any fun b => b.glyphSet == 0) = 1 :=
  ⟨held_of (by decide +kernel), by decide +kernel, by decide +kernel, by decide +kernel, by decide +kernel,
    by decide +kernel, by decide +kernel⟩

theorem witness_GlyphLoadRecords_free : ∀ w h sep k l, ready.glyph 1 ≠ .loading w h sep k l := by
  intro w h sep k l e
  have h' : ready.glyph 1 = .empty := by decide +kernel
  rw [h'] at e
  cases e

def bindRecord : List Byte := record 0x31 [0, 1, 0, 0, 8, 0, 0, 0, 0, 4, 1, 0, 0]

/-- Tally 0 place 1, at (8, 0), one digit of pitch 4: the panel has the binding of place 0 elsewhere. -/
def binding1 : Binding := { smallBinding with rect := { x := 8, y := 0, w := 4, h := 5 } }

theorem witness_BindAndUnbindRecords :
    Held .tallyBind (holding bindRecord bound) .u bindRecord ∧
    Held .tallyUnbind (holding (record 0x32 [0, 0]) bound) .u (record 0x32 [0, 0]) ∧
    (byteAt bindRecord 16 = (0 : TallyId).val ∧ byteAt bindRecord 17 = (1 : Fin 2).val ∧
      (ready.tally 0).defn = none ∧ (bound.tally 0).defn = some (smallTally .running 1) ∧
      bound.binding 0 0 = some smallBinding ∧ bound.binding 0 1 = none) ∧
    (byteAt bindRecord 18 = (0 : PanelId).val ∧ byteAt bindRecord 24 = (0 : Fin 4).val ∧ byteAt bindRecord 25 = 4 ∧
      byteAt bindRecord 26 ≤ 2 ^ smallConfig.depth - 1 ∧ byteAt bindRecord 27 ≤ 2 ^ smallConfig.depth - 1 ∧
      byteAt bindRecord 28 ≤ (smallTally .running 1).moduli.length - 1 ∧ byteAt bindRecord 37 % 2 ≠ 1 ∧
      (List.range (min 7 ((smallTally .running 1).moduli.length - 1))).map (fun j => byteAt bindRecord (29 + j)) = [] ∧
      binding1.rect.x = field16 bindRecord 20 ∧ binding1.rect.y = field16 bindRecord 22 ∧
      binding1.rect.x + binding1.rect.w ≤ smallConfig.width ∧ binding1.rect.y + binding1.rect.h ≤ smallConfig.height) ∧
    (15 < byteAt (record 0x32 [16]) 16 ∧ 1 < byteAt (record 0x32 [0, 2]) 17) :=
  ⟨held_of (by decide +kernel), held_of (by decide +kernel), by decide +kernel, by decide +kernel, by decide +kernel⟩

/-- `bindRecord` with one byte of its body replaced, for panel 0's place 1 of tally 0. -/
def bindWith (i v : Nat) : List Byte :=
  record 0x31 (([0, 1, 0, 0, 8, 0, 0, 0, 0, 4, 1, 0, 0] ++ List.replicate 9 0).set i v)

/-- Tally 16, place 2, panel 4 and an unconfigured one, set 4, an EMPTY and a LOADING one; 5 and 6 rows too low; the
last column and one past it. -/
theorem witness_BindAndUnbindRecords_refused :
    Held .tallyBind (holding (bindWith 0 16) bound) .u (bindWith 0 16) ∧
    (15 < byteAt (bindWith 0 16) 16 ∧ 1 < byteAt (bindWith 1 2) 17 ∧ 3 < byteAt (bindWith 2 4) 18 ∧
      byteAt (bindWith 2 1) 18 = (1 : PanelId).val ∧ (bound.port 1).config = none ∧ 3 < byteAt (bindWith 8 4) 24 ∧
      bound.glyph 1 = .empty ∧ cancelling.glyph 2 = .loading 4 5 2 (ticket 3) [0]) ∧
    (field16 (bindWith 4 12) 20 + 1 * 4 = smallConfig.width ∧ smallConfig.width < field16 (bindWith 4 13) 20 + 1 * 4 ∧
      field16 (bindWith 6 3) 22 + 5 = smallConfig.height ∧ smallConfig.height < field16 (bindWith 6 4) 22 + 5) :=
  ⟨held_of (by decide +kernel), by decide +kernel, by decide +kernel⟩

/-- Each of fields 7 to 12 fails alone, and none at the limits; entry 0 of the separators of two digits is no code. -/
theorem witness_BindAndUnbindRecords_fields :
    (∀ f, bindFieldPasses (bindWith 9 40) 4 1 smallConfig f) ∧
    (¬bindFieldPasses (bindWith 9 3) 4 1 smallConfig 7 ∧ ¬bindFieldPasses (bindWith 9 41) 4 1 smallConfig 7 ∧
      ¬bindFieldPasses (bindWith 10 2) 4 1 smallConfig 8 ∧ ¬bindFieldPasses (bindWith 11 2) 4 1 smallConfig 9 ∧
      ¬bindFieldPasses (bindWith 12 1) 4 1 smallConfig 10 ∧ ¬bindFieldPasses (bindWith 13 3) 4 2 smallConfig 11 ∧
      (0 < min 7 (2 - 1) ∧ 2 < byteAt (bindWith 13 3) 29)) ∧
    ¬bindFieldPasses (record 0x31 ([0, 1, 0, 0, 8, 0, 0, 0, 0, 4, 1, 0, 0] ++ List.replicate 7 0 ++ [4, 1])) 4 1
      smallConfig 12 := by
  refine ⟨fun f => ?_, ?_, ?_⟩
  · match f with
    | 7 => simp only [bindFieldPasses]; decide +kernel
    | 8 => simp only [bindFieldPasses]; decide +kernel
    | 9 => simp only [bindFieldPasses]; decide +kernel
    | 10 => simp only [bindFieldPasses]; decide +kernel
    | 11 => simp only [bindFieldPasses]; decide +kernel
    | 12 => simp only [bindFieldPasses]; decide +kernel
    | 0 | 1 | 2 | 3 | 4 | 5 | 6 => trivial
    | n + 13 => trivial
  · simp only [bindFieldPasses]; decide +kernel
  · simp only [bindFieldPasses]; decide +kernel

/-- The rect at (8, 0) meets no reserved rectangle and the one at (0, 0) meets that of place 0; an entry in the way. -/
theorem witness_BindAndUnbindRecords_clashes :
    (∀ t i, ¬clashes bound 0 binding1.rect t i) ∧ clashes bound 0 smallBinding.rect 0 0 ∧
    [entry .fill .ready none 1].find? (fun e => e.kind != .capture && smallBinding.rect.intersects e.rect) =
      some (entry .fill .ready none 1) ∧
    (∀ e ∈ [entry .capture .ready none 1], e.kind = .capture ∨ binding1.rect.intersects e.rect = false) := by
  refine ⟨?_, ⟨smallBinding, by decide +kernel, rfl, by decide +kernel⟩, by decide +kernel, by decide +kernel⟩
  rintro t i ⟨b, hb, -, hq⟩
  by_cases h : t = 0 ∧ i = 0
  · obtain ⟨rfl, rfl⟩ := h
    have h' : bound.binding 0 0 = some smallBinding := by decide +kernel
    rw [h'] at hb
    cases hb
    exact absurd hq (by decide +kernel)
  · have h' : ∀ (t : TallyId) (i : Fin 2), ¬(t = 0 ∧ i = 0) → bound.binding t i = none := by decide +kernel
    rw [h' t i h] at hb
    cases hb

/-! ### Tallies -/

/-- The greatest value, at each end action. -/
theorem witness_TallyStepsCountByOne : (smallTally .running 2).lawful ∧ (smallTally .running 0).lawful ∧
    (smallTally .running 2).value = (smallTally .running 2).terminal ∧
    (smallTally .running 0).value ≠ (smallTally .running 0).terminal ∧
    ({ smallTally .running 2 with endAction := .reload, reload := some [2] }).reload = some [2] := by
  refine ⟨?_, ?_, by decide, by decide, rfl⟩ <;>
  exact ⟨by decide, by decide, by decide, ⟨by decide, trivial⟩, fun v hv => (by cases hv),
    fun v hv => (by cases hv; exact ⟨by decide, trivial⟩), fun h => (by cases h), fun _ => rfl, fun n hn => (by cases hn)⟩

/-- Tally 0, two digits of moduli 2 and 10, source TALLY would need a lower tally: HOST. -/
def defineRecord (i v : Nat) : List Byte :=
  record 0x40 ([0, 2, 2, 10, 0, 0, 0, 0, 0, 0, 0, 12, 2, 3, 1, 0, 0x91, 0, 0, 0, 0x91, 0, 0, 0, 0x91].set i v)

theorem witness_TallyDefineAndReadRecords :
    Held .tallyDefine (holding (defineRecord 0 0) ready) .u (defineRecord 0 0) ∧
    Held .tallyRead (holding (record 0x42 [0]) (withTally .running 2)) .u (record 0x42 [0]) ∧
    (15 < byteAt (defineRecord 0 16) 16 ∧ byteAt (defineRecord 0 0) 16 = (0 : TallyId).val ∧
      ((withTally .running 2).tally 0).defn = some (smallTally .running 2) ∧ (ready.tally 0).defn = none ∧
      (List.finRange 2).countP (fun i => (bound.binding 0 i).isSome) = 1 ∧
      (List.finRange 2).countP (fun i => (ready.binding 0 i).isSome) = 0) :=
  ⟨held_of (by decide +kernel), held_of (by decide +kernel), by decide +kernel⟩

/-- Every field passes with digits 1 9; modulus 11 fails field 3 at digit 1; digit 0 at 2 fails fields 7, 8 and 9. -/
theorem witness_TallyDefineAndReadRecords_fields :
    (∀ f, 2 ≤ f → f ≤ 10 → defineFieldPasses (defineRecord 0 0) 0 f) ∧
    ¬defineFieldPasses (defineRecord 1 9) 0 2 ∧ ¬defineFieldPasses (defineRecord 3 11) 0 3 ∧
    ¬defineFieldPasses (defineRecord 10 2) 0 4 ∧ ¬defineFieldPasses (defineRecord 11 16) 0 5 ∧
    ¬defineFieldPasses (defineRecord 12 3) 0 6 ∧
    firstBadDigit [2, 10] (digitsOf 2 (field32 (defineRecord 16 0x92) 32)) 0 ∧
    ¬defineFieldPasses (defineRecord 13 4) 0 10 := by
  refine ⟨fun f h h' => ?_, ?_, ?_, ?_, ?_, ?_, ?_, ?_⟩
  · interval_cases f <;> simp only [defineFieldPasses, digitsFit] <;> decide +kernel
  all_goals (first | simp only [defineFieldPasses] | simp only [firstBadDigit])
  all_goals decide +kernel

/-- Operation 4; START, STOP, SET and ADD, of a STOPPED and of an EXPIRED tally; a digit too high; counts 0 and 65 535. -/
theorem witness_TallyControlRecords :
    (∀ o ∈ [0, 1, 2, 3, 4], ∀ x ∈ [TallyRun.stopped, .running, .expired],
      let b := record 0x41 [0, o, 0, 0, 2, 0, 0, 0, 255, 255]
      let s := holding b (withTally x 2)
      (chosenRing s = some .u ∧ (s.ring .u).holder = some b ∧ recordKind b = some .tallyControl ∧ headerClear b = true) ∧
        byteAt b 16 = (0 : TallyId).val ∧ byteAt b 17 = o ∧ (s.tally 0).defn = some (smallTally x 2) ∧
        field16 b 24 = 65535 ∧ digitsOf 1 (field32 b 20) = [2]) ∧
    field16 (record 0x41 [0, 3]) 24 = 0 ∧ 15 < byteAt (record 0x41 [16]) 16 := by decide +kernel

theorem witness_TallyControlRecords_digits :
    digitsFit [3] [2] ∧ firstBadDigit [3] (digitsOf 1 (field32 (record 0x41 [0, 2, 0, 0, 3]) 20)) 0 := by
  refine ⟨?_, ?_⟩
  · unfold digitsFit; decide +kernel
  · unfold firstBadDigit; decide +kernel

/-! ### Ticks and count inputs -/

/-- 998 us and 999 us; a P10MS tally at remainder 9; a filter of 2 at hold 1. -/
def ticking : State :=
  ((ready.setTb { ready.tb with us := 999 }).setTally 0
    { defn := some { smallTally .running 1 with source := .p10ms, remainder := some 9 }, endCount := 0, watchCount := 0 }).setCin
    5 { CountInput.reset with raw := true, filter := 2, accepted := some false, hold := 1 }

theorem witness_TicksReachTheirConsumers :
    (State.reset.tb.running = false) ∧
    (let s := ready.setTb { ready.tb with us := 998 };
      s.tb.running = true ∧ (s.tb.us + 1).toNat % 1000 ≠ 0) ∧
    (ticking.tb.running = true ∧ (ticking.tb.us + 1).toNat % 1000 = 0 ∧
      (ticking.tally 0).defn = some { smallTally .running 1 with source := .p10ms, remainder := some 9 }) ∧
    ticking.cin 5 = { CountInput.reset with raw := true, filter := 2, accepted := some false, hold := 1 } := by
  decide +kernel

theorem witness_TicksReachTheirConsumers_due :
    ({ smallTally .running 1 with source := .p10ms, remainder := some 9 }).periodEnds ∧ (ticking.cin 5).expires ∧
      ticking.talliesLawful := by
  refine ⟨⟨10, 9, rfl, rfl, rfl⟩, ⟨false, by decide +kernel, by decide +kernel, by decide +kernel, by decide +kernel⟩,
    fun t => ?_⟩
  by_cases h : t = 0
  · subst h
    have h : ticking.tally 0 = {
        defn := some { smallTally .running 1 with source := .p10ms, remainder := some 9 }, endCount := 0, watchCount := 0 } := by
      decide +kernel
    rw [h]
    refine ⟨fun d hd => ?_, by decide, by decide⟩
    cases hd
    refine ⟨⟨by decide, by decide, by decide, ⟨by decide, trivial⟩, fun v hv => (by cases hv), fun v hv => ?_,
      fun h => (by cases h), fun h => (by cases h), fun n hn => ?_⟩, fun k hk => (by cases hk)⟩
    · cases hv
      exact ⟨by decide, trivial⟩
    · cases hn
      exact ⟨9, rfl, by decide⟩
  · have h : ticking.tally t = Tally.reset := by
      revert t
      decide +kernel
    rw [h]
    exact ⟨fun d hd => (by cases hd), by decide, by decide⟩

/-- The same level, the timebase stopped, a filter of 1, and none with the accepted level the other. -/
theorem witness_CountInputLevelChanges :
    (ready.cin 7).raw = false ∧ (ready.cin 7).raw = !true ∧ ready.tb.running = true ∧ State.reset.tb.running = false ∧
      (State.reset.cin 7).raw = !true ∧ (ready.cin 7).filter = 0 ∧ (ready.cin 7).accepted = some (!true) ∧
      1 ≤ ((ready.setCin 7 { CountInput.reset with filter := 1, accepted := some false }).cin 7).filter := by
  decide +kernel

/-- Boundaries of each field: group 3 and 4, periods 2, 500, 1 and 501; place 15 and 16; line 7 and 8, filters 15 and
16. -/
theorem witness_BlinkAndCountInputRecords :
    Held .blinkGroup (holding (record 0x50 [3, 0, 0xF4, 1, 75]) ready) .u (record 0x50 [3, 0, 0xF4, 1, 75]) ∧
    Held .blinkZone (holding (record 0x51 [15, 1, 0, 0, 0, 0, 0, 0, 16, 0, 8, 0, 3]) (withPanel .running none)) .u
      (record 0x51 [15, 1, 0, 0, 0, 0, 0, 0, 16, 0, 8, 0, 3]) ∧
    Held .countInput (holding (record 0x52 [7, 2, 15]) ready) .u (record 0x52 [7, 2, 15]) ∧
    (field16 (record 0x50 [3, 0, 0xF4, 1, 75]) 18 = 500 ∧ 500 < field16 (record 0x50 [3, 0, 0xF5, 1]) 18 ∧
      field16 (record 0x50 [3, 0, 1]) 18 < 2 ∧ 3 < byteAt (record 0x50 [4]) 16 ∧ byteAt (record 0x50 [3, 0, 2, 0, 26]) 20 = 26) ∧
    (let q := rectAt (record 0x51 [15, 1, 0, 0, 0, 0, 0, 0, 16, 0, 8, 0, 3]) 20;
      q.w = 16 ∧ q.h = 8 ∧ q.x + q.w ≤ smallConfig.width ∧ q.y + q.h ≤ smallConfig.height) ∧
    (15 < byteAt (record 0x51 [16]) 16 ∧ 1 < byteAt (record 0x51 [0, 2]) 17 ∧ byteAt (record 0x51 [0, 1, 4]) 18 = 4 ∧
      byteAt (record 0x51 [0, 1, 0, 0, 0, 0, 0, 0, 8, 0, 2, 0, 4]) 28 = 4 ∧ (ready.zone 15).isSome = false) ∧
    (7 < byteAt (record 0x52 [8]) 16 ∧ 2 < byteAt (record 0x52 [7, 3]) 17 ∧ 15 < byteAt (record 0x52 [7, 2, 16]) 18) :=
  ⟨held_of (by decide +kernel), held_of (by decide +kernel), held_of (by decide +kernel), by decide +kernel,
    by decide +kernel, by decide +kernel, by decide +kernel⟩

/-- Depths 1, 2 and 4; the last pixel of a row of 5 and the first pad pixel; eight digits of 15. -/
theorem witness_PackedFormsComeBack :
    (∀ d ∈ [1, 2, 4], unpackPixel (packByte (fun i => i) 5 d (4 * d / 8)) 4 d = 4 % 2 ^ d ∧
      unpackPixel (packByte (fun i => i) 5 d (5 * d / 8)) 5 d = 0) ∧
    ∀ x ∈ List.replicate 8 15, x < 16 := by decide +kernel

end Sys2Proof.Tests
end

section
/-! PROOFS. What a command answers, and the panels' side of the part: the ports, the frame store and the staging pool.
Most commands leave all three alone, so a law of the panels' side has only the others to be proved for. -/

namespace Sys2Proof.Machine

/-! ## What a command answers -/

/-- The outcome's next state, if it has one, satisfies `P`. -/
def Answers (P : State → Prop) (o : Host.Outcome State Fault Refusal) : Prop := ∀ t, o = .next t → P t

@[simp] theorem answers_next {P : State → Prop} {s : State} : Answers P (.next s) ↔ P s :=
  ⟨fun h => h s rfl, fun h t e => by cases e; exact h⟩

@[simp] theorem answers_finish {P : State → Prop} {s : State} :
    Answers P (finish s) ↔ P (chooseWrite (withdrawStaleEvent s)) := answers_next

theorem Answers.mono {P Q : State → Prop} {o : Host.Outcome State Fault Refusal} (h : Answers P o)
    (hpq : ∀ t, P t → Q t) : Answers Q o := fun t e => hpq t (h t e)

theorem answers_ite {P : State → Prop} {c : Prop} [Decidable c] {a b : Host.Outcome State Fault Refusal}
    (ha : c → Answers P a) (hb : ¬c → Answers P b) : Answers P (if c then a else b) := by
  split
  · exact ha ‹_›
  · exact hb ‹_›

/-- A law that every command keeps, and that does not speak of the queue, is kept by every step. -/
theorem step_keeps {P : State → Prop} (hq : ∀ s v, P s → P (s.setPending v))
    (he : ∀ i s, P s → Answers P (exec i s)) {s t : State} (h : step s = .next t) (hs : P s) : P t := by
  unfold step at h
  split at h
  · cases h; exact hs
  · exact he _ _ (hq s _ hs) t h

/-! ## The panels' side -/

/-- What the panels' side holds: the ports, the frame store and the staging pool. -/
def State.panels (s : State) : Vector Port 4 × Vector Memory 4 × Memory := (s.ports, s.regions, s.staging)

@[simp] theorem panels_eq_iff {s t : State} :
    t.panels = s.panels ↔ t.ports = s.ports ∧ t.regions = s.regions ∧ t.staging = s.staging := by
  simp [State.panels]

/-- The law speaks of the panels' side alone. -/
def OfPanels (P : State → Prop) : Prop := ∀ s t : State, t.panels = s.panels → P s → P t

/-- CPo's choice does not reach the panels. -/
theorem OfPanels.finish {P : State → Prop} (hP : OfPanels P) {s : State} (h : P s) : Answers P (finish s) :=
  answers_finish.2 (hP s _ (by simp) h)

/-- A dispatch reaches the panels through its owner's ruling alone. -/
theorem OfPanels.dispatchHeld {P : State → Prop} (hP : OfPanels P) {o : RecordOwner} {r : RingId} {record : List Byte}
    {s : State} (hs : P s) (ho : ∀ t u, u.panels = s.panels → P ((o t record u).after u)) :
    P (dispatchHeld o r record s) := by
  have taken : (takeRecord r (s.setPassOver (passOverAfter s r))).panels = s.panels := by simp
  have ruled := ho (ticketOf s r record) _ taken
  unfold Machine.dispatchHeld
  dsimp only
  split
  · cases h : o (ticketOf s r record) record (takeRecord r (s.setPassOver (passOverAfter s r))) with
    | answered x a b u => rw [h] at ruled; exact hP u _ (by simp [settleRuling]) ruled
    | accepted u => rw [h] at ruled; exact ruled
    | withdrawn n => exact hP s _ (by simp [settleRuling]) hs
  · exact hP s _ (by simp) hs

/-- A record command reaches the panels through its owner's ruling alone. -/
theorem OfPanels.dispatch {P : State → Prop} (hP : OfPanels P) {k : Kind} {o : RecordOwner} {s : State} (hs : P s)
    (ho : ∀ t record u, u.panels = s.panels → P ((o t record u).after u)) : Answers P (dispatch k o s) := by
  intro t h
  obtain rfl | ⟨r, record, -, -, -, rfl⟩ := dispatch_cases h
  · exact hs
  · exact hP.finish (hP.dispatchHeld hs (ho · record)) _ rfl

/-! ## The commands that leave the panels alone -/

theorem ofPanels_eq (s : State) : OfPanels fun t => t.panels = s.panels := fun _ _ e h => e.trans h

/-- A record command whose owner leaves the panels alone does so too. -/
theorem dispatch_panels {k : Kind} {o : RecordOwner} {s : State}
    (ho : ∀ t record u, ((o t record u).after u).panels = u.panels) :
    Answers (fun t => t.panels = s.panels) (dispatch k o s) :=
  (ofPanels_eq s).dispatch rfl fun t record u e => (ho t record u).trans e

@[simp] theorem timeoutEnds_staging (q : Requester) (s : State) : (timeoutEnds q s).staging = s.staging := by
  unfold timeoutEnds
  repeat' split
  all_goals simp [fetchEnds, orphanEnds]

/-- The commands that may reach a port, the frame store or the staging pool. -/
def reachesPanels : Instr → Bool
  | .resetNAssert | .initClearEnd | .pfltAssert _ | .pfltRelease _ | .usTick | .msTick | .timebasePeriodStep _
  | .filterHoldExpiry _ | .setupReadTimeout | .setupReadEnd _ | .enable _ | .softReset _ | .intEnable _
  | .fetchBurstEnd _ | .orphanBurstEnd _ | .frameBoundary _ | .rowTransfer _ | .frameEnd _ | .panelConfig
  | .panelStart | .panelStop | .panelHold | .panelWindow => true
  | _ => false

/-- Every other command leaves the panels' side as it is. -/
theorem exec_panels (i : Instr) (hi : reachesPanels i = false) (s : State) :
    Answers (fun t => t.panels = s.panels) (exec i s) := by
  cases i with
  | nop | sync | update | fill | capture | cancel | glyphLoad | tallyBind | tallyUnbind | tallyDefine | tallyControl
  | tallyRead | blinkGroup | blinkZone | countInput => exact dispatch_panels (by simp)
  | resetNRelease | cinLevelChange | burstTimeout | lateAnswer | tailWrite | cRelease | registerWrite | burstIssue
  | ringReadEnd | completionWriteEnd | writeBackBurstEnd | resettingExit | unknownKind =>
    simp only [exec, execResetNRelease, execCinLevelChange, execBurstTimeout, execLateAnswer, execTailWrite,
      execCRelease, execRegisterWrite, execBurstIssue, execRingReadEnd, execCompletionWriteEnd, execWriteBackBurstEnd,
      execResettingExit, execUnknownKind]
    repeat' split
    all_goals simp
  | _ => cases hi

end Sys2Proof.Machine
end

section
/-! PROOFS. What a frame boundary paints: its own panel's region alone, in canonical form. -/

namespace Sys2Proof.Machine

/-! ## What a boundary paints -/

/-- From `s` to `t` no region but panel `p`'s has changed, and canonical memories have stayed canonical. -/
structure PaintsOnly (p : PanelId) (s t : State) : Prop where
  others : ∀ q, q ≠ p → t.region q = s.region q
  canonical : s.memoriesCanonical → t.memoriesCanonical

theorem PaintsOnly.trans {p : PanelId} {s t u : State} (h : PaintsOnly p s t) (h' : PaintsOnly p t u) :
    PaintsOnly p s u :=
  ⟨fun q hq => (h'.others q hq).trans (h.others q hq), fun hs => h'.canonical (h.canonical hs)⟩

theorem paintsOnly_of_eq {p : PanelId} {s t : State} (hr : t.regions = s.regions) (hs : t.staging = s.staging) :
    PaintsOnly p s t where
  others _ _ := by simp only [State.region, hr]
  canonical := by simp only [State.memoriesCanonical, State.region, hr, hs, imp_self]

theorem PaintsOnly.refl (p : PanelId) (s : State) : PaintsOnly p s s := paintsOnly_of_eq rfl rfl

/-- What leaves the frame store and the staging pool alone paints nothing more. -/
theorem PaintsOnly.followed {p : PanelId} {s t u : State} (h : PaintsOnly p s t) (hr : u.regions = t.regions)
    (hs : u.staging = t.staging) : PaintsOnly p s u := h.trans (paintsOnly_of_eq hr hs)

/-- Regions in canonical form stay so when one of them is replaced by a memory in canonical form. -/
theorem State.memoriesCanonical.setRegion {s : State} (h : s.memoriesCanonical) (p : PanelId) {m : Memory}
    (hm : m.wf = true) : (s.setRegion p m).memoriesCanonical := by
  refine ⟨h.1, fun q => ?_⟩
  by_cases hq : p = q
  · subst hq; simpa using hm
  · simpa [State.setRegion_region_of_ne s m hq] using h.2 q

theorem paintsOnly_setRegion {p : PanelId} {s : State} {m : Memory} (hm : (s.region p).wf = true → m.wf = true) :
    PaintsOnly p s (s.setRegion p m) where
  others _ hq := State.setRegion_region_of_ne s m (Ne.symm hq)
  canonical h := h.setRegion p (hm (h.2 p))

theorem State.memoriesCanonical.setStaging {s : State} (h : s.memoriesCanonical) {m : Memory} (hm : m.wf = true) :
    (s.setStaging m).memoriesCanonical := ⟨hm, h.2⟩

/-- A rectangle painted into the panel's region (R1). -/
theorem paintsOnly_paint (p : PanelId) (s : State) (r : Rect) (f : Nat → Nat → Nat) :
    PaintsOnly p s (s.setRegion p (paint (s.region p) r f)) := paintsOnly_setRegion fun h => paint_wf h r f

theorem paintsOnly_renderBinding (p : PanelId) (s : State) (x : TallyId × Fin 2) :
    PaintsOnly p s (renderBinding p s x) := by
  unfold renderBinding
  split
  · exact .refl p s
  · split
    · split
      · exact (paintsOnly_paint p s _ _).followed (State.setBinding_regions ..) (State.setBinding_staging ..)
      · exact .refl p s
    · exact .refl p s

theorem paintsOnly_renderDirty (p : PanelId) (s : State) : PaintsOnly p s (renderDirty p s) :=
  List.foldlRecOn places (renderBinding p) (.refl p s) fun u h x _ => h.trans (paintsOnly_renderBinding p u x)

theorem paintsOnly_commitEffect (p : PanelId) (depth : Nat) (e : Entry) (s : State) :
    PaintsOnly p s (commitEffect p depth e s) := by
  unfold commitEffect
  split
  · exact (paintsOnly_paint p s e.rect (stagedShade s.staging (e.slots.getD []) e.rowBytes depth)).followed
      (by simp) (by simp)
  · exact paintsOnly_paint p s e.rect _
  · exact ⟨fun q _ => by simp [State.region], fun h => h.setStaging (stageBytes_wf h.1 _ _ _ _)⟩

theorem paintsOnly_walkEntry (p : PanelId) (c : PanelConfig) (frame : Word) (w : Walk) (e : Entry) :
    PaintsOnly p w.state (walkEntry p c frame w e).state := by
  unfold walkEntry
  repeat' split
  case h_5.isTrue => exact paintsOnly_commitEffect p c.depth e w.state
  all_goals exact .refl p w.state

theorem paintsOnly_walkFrom (p : PanelId) (c : PanelConfig) (frame : Word) (w : Walk) (l : List Entry) :
    PaintsOnly p w.state (walkFrom p c frame w l).state :=
  List.foldlRecOn (motive := fun v : Walk => PaintsOnly p w.state v.state) l (walkEntry p c frame) (.refl p w.state)
    fun v h e _ => h.trans (paintsOnly_walkEntry p c frame v e)

theorem paintsOnly_commitWalk (p : PanelId) (c : PanelConfig) (frame : Word) (s : State) :
    PaintsOnly p s (commitWalk p c frame s) := by
  have walked := paintsOnly_walkFrom p c frame ⟨s, [], 0, []⟩ (s.list p)
  exact walked.followed (by simp [commitWalk]) (by simp [commitWalk])

/-- A boundary paints its own panel's region alone (R42). -/
theorem paintsOnly_boundary (p : PanelId) (s : State) : PaintsOnly p s (boundary p s) := by
  unfold boundary
  split
  · exact .refl p s
  · rename_i c0 _
    dsimp only
    generalize applyWindow (advanceFrame c0 (s.port p)) = o
    have numbered : PaintsOnly p s (s.setPort p o) := paintsOnly_of_eq (by simp) (by simp)
    split
    · have rendered := numbered.trans (paintsOnly_renderDirty p (s.setPort p o))
      have worked := rendered.trans (paintsOnly_commitWalk p (o.config.getD c0) o.frameNumber _)
      exact worked.followed (by simp [boundaryWork]) (by simp [boundaryWork])
    · exact numbered.followed (by simp) (by simp)

end Sys2Proof.Machine
end

section
/-! PROOFS. The frame store and the staging pool over all 51 commands: which of them paint, and that the memories stay
canonical (O44, O4). -/

namespace Sys2Proof.Machine

/-! ## The commands that leave the pictures alone -/

/-- What a program can see of pictures: the frame store and the staging pool. -/
def State.pictures (s : State) : Vector Memory 4 × Memory := (s.regions, s.staging)

@[simp] theorem pictures_eq_iff {s t : State} :
    t.pictures = s.pictures ↔ t.regions = s.regions ∧ t.staging = s.staging := by
  simp [State.pictures]

theorem ofPanels_pictures_eq (s : State) : OfPanels fun t => t.pictures = s.pictures := by
  intro t u e h
  simp_all

@[simp] theorem applyWindow_state (o : Port) : (applyWindow o).state = o.state := by
  unfold applyWindow; split <;> rfl

@[simp] theorem advanceFrame_state (c : PanelConfig) (o : Port) : (advanceFrame c o).state = o.state := by
  unfold advanceFrame; split <;> rfl

/-- A boundary paints only on a RUNNING panel (R42). -/
theorem boundary_pictures {p : PanelId} {s : State} (h : (s.port p).state ≠ .running) :
    (boundary p s).pictures = s.pictures := by
  unfold boundary
  split
  · rfl
  · simp [h]

theorem drainCheck_pictures {p : PanelId} {s : State} (h : (s.port p).state = .draining) :
    (drainCheck p s).pictures = s.pictures := by
  unfold drainCheck
  split
  · exact boundary_pictures (by simp [h])
  · simp

theorem enterStarting_pictures (p : PanelId) (s : State) : (enterStarting p s).pictures = s.pictures := by
  unfold enterStarting
  dsimp only
  split
  · simp
  · exact (boundary_pictures (by simp)).trans (by simp)

theorem enterDraining_pictures (p : PanelId) (s : State) : (enterDraining p s).pictures = s.pictures := by
  unfold enterDraining
  dsimp only
  split
  · exact (drainCheck_pictures (by simp [State.port])).trans (by simp)
  · simp

theorem drainFromFault_pictures (p : PanelId) (s : State) : (drainFromFault p s).pictures = s.pictures :=
  (drainCheck_pictures (by simp)).trans (by simp)

theorem softResetPort_pictures (s : State) (p : PanelId) : (softResetPort s p).pictures = s.pictures := by
  unfold softResetPort
  dsimp only
  split
  · split
    · exact (drainCheck_pictures (by simp)).trans (by simp)
    · simp
  · split <;> simp

theorem enterResetting_pictures (s : State) : (enterResetting s).pictures = s.pictures :=
  (foldl_keeps softResetPort_pictures _ _).trans (by simp)

theorem setupReadEnds_pictures (a : ReadEnd) (s : State) : (setupReadEnds a s).pictures = s.pictures := by
  unfold setupReadEnds
  split
  · exact enterResetting_pictures s
  · repeat' split
    all_goals simp

theorem writeSoftReset_pictures (s : State) : (writeSoftReset s).pictures = s.pictures := by
  unfold writeSoftReset
  split
  case h_2 | h_3 | h_4 | h_5 => exact enterResetting_pictures s
  all_goals simp

theorem writeControl_pictures (v : Word) (s : State) : (writeControl v s).pictures = s.pictures := by
  unfold writeControl
  split
  · dsimp only
    split
    · exact (writeSoftReset_pictures _).trans (by simp)
    · simp
  · rfl

theorem afterFrame_pictures (p : PanelId) (s : State) : (afterFrame p s).pictures = s.pictures := by
  unfold afterFrame
  split
  case h_2 h => exact drainCheck_pictures h
  all_goals simp

theorem endFrame_pictures (p : PanelId) (f : Frame) (s : State) : (endFrame p f s).pictures = s.pictures :=
  (afterFrame_pictures p _).trans (by simp)

/-! ## What the panel commands' owners do -/

/-- An accepted PANEL_START joins the waiting starts of a STARTING panel, or starts a configured OFF or FAULTED one
(R81, R82). -/
theorem panelStartOwner_after (t : Ticket) (record : List Byte) (s : State) :
    (panelStartOwner t record s).after s = s ∨ ∃ p,
      (panelStartOwner t record s).after s = joinStarts p t s ∨
      (panelStartOwner t record s).after s = enterStarting p (joinStarts p t s) ∧
        ((s.port p).state = .off ∧ (s.port p).config.isSome ∨ (s.port p).state = .faulted) := by
  unfold panelStartOwner
  split
  · exact .inl rfl
  · rename_i p _
    split
    case h_1 h =>
      split
      · exact .inr ⟨p, .inr ⟨rfl, .inl ⟨h, ‹_›⟩⟩⟩
      · exact .inl rfl
    case h_2 => exact .inr ⟨p, .inl rfl⟩
    case h_6 h =>
      split
      · exact .inl rfl
      · exact .inr ⟨p, .inr ⟨rfl, .inr h⟩⟩
    all_goals exact .inl rfl

/-- An accepted PANEL_STOP joins the waiting stops of a DRAINING panel, or stops one that accepts or is FAULTED (R84,
R85). -/
theorem panelStopOwner_after (t : Ticket) (record : List Byte) (s : State) :
    (panelStopOwner t record s).after s = s ∨ ∃ p,
      (panelStopOwner t record s).after s = joinStops p t s ∨
      (panelStopOwner t record s).after s = enterDraining p (joinStops p t s) ∧ (s.port p).state.accepting = true ∨
      (panelStopOwner t record s).after s = drainFromFault p (joinStops p t s) ∧ (s.port p).state = .faulted := by
  unfold panelStopOwner
  split
  · exact .inl rfl
  · rename_i p _
    split
    case h_1 => exact .inl rfl
    case h_5 => exact .inr ⟨p, .inl rfl⟩
    case h_6 h =>
      split
      · exact .inl rfl
      · exact .inr ⟨p, .inr (.inr ⟨rfl, h⟩)⟩
    all_goals exact .inr ⟨p, .inr (.inl ⟨rfl, by simp [*, PanelState.accepting]⟩)⟩

/-- An accepted PANEL_HOLD freezes a RUNNING panel or releases a FROZEN one (R88). -/
theorem panelHoldOwner_after (t : Ticket) (record : List Byte) (s : State) :
    (panelHoldOwner t record s).after s = s ∨ ∃ p v,
      (panelHoldOwner t record s).after s = setPanelState p v s ∧ (s.port p).state.accepting = true ∧
        (v = .frozen ∨ v = .running) := by
  unfold panelHoldOwner
  split
  · exact .inl rfl
  · rename_i p _
    dsimp only
    split
    · exact .inl rfl
    · split
      case h_1 h =>
        split
        · exact .inr ⟨p, .frozen, rfl, by simp [h, PanelState.accepting], .inl rfl⟩
        · exact .inl rfl
      case h_2 h =>
        split
        · exact .inl rfl
        · exact .inr ⟨p, .running, rfl, by simp [h, PanelState.accepting], .inr rfl⟩
      all_goals exact .inl rfl

/-- An accepted PANEL_WINDOW changes the window of a configured panel to one within its rows (R89). -/
theorem panelWindowOwner_after (t : Ticket) (record : List Byte) (s : State) :
    (panelWindowOwner t record s).after s = s ∨ ∃ p c w,
      (panelWindowOwner t record s).after s = s.setPort p (changeWindow w (s.port p)) ∧ (s.port p).config = some c ∧
        w.1 ≤ w.2 ∧ w.2 < c.height := by
  unfold panelWindowOwner
  split
  · exact .inl rfl
  · rename_i p _
    split
    · exact .inl rfl
    · rename_i c hc
      dsimp only
      split
      · exact .inl rfl
      · split
        · exact .inl rfl
        · rename_i h
          simp only [Bool.or_eq_true, decide_eq_true_eq] at h
          exact .inr ⟨p, c, _, rfl, hc, by omega, by omega⟩

/-- An accepted PANEL_CONFIG configures an OFF panel from fields that have passed (R12 to R14). -/
theorem panelConfigOwner_after (t : Ticket) (record : List Byte) (s : State) :
    (panelConfigOwner t record s).after s = s ∨ ∃ p,
      (panelConfigOwner t record s).after s = configure p (configBody record).config s ∧ (s.port p).state = .off ∧
        (configBody record).failing = none := by
  unfold panelConfigOwner
  split
  · exact .inl rfl
  · rename_i p _
    dsimp only
    split
    · exact .inl rfl
    · rename_i hoff
      split
      · exact .inl rfl
      · split
        · exact .inl rfl
        · exact .inr ⟨p, rfl, not_not.1 hoff, ‹_›⟩

theorem panelStartOwner_pictures (t : Ticket) (record : List Byte) (s : State) :
    ((panelStartOwner t record s).after s).pictures = s.pictures := by
  obtain e | ⟨p, e | ⟨e, -⟩⟩ := panelStartOwner_after t record s
  · rw [e]
  · rw [e]; simp
  · rw [e]; exact (enterStarting_pictures _ _).trans (by simp)

theorem panelStopOwner_pictures (t : Ticket) (record : List Byte) (s : State) :
    ((panelStopOwner t record s).after s).pictures = s.pictures := by
  obtain e | ⟨p, e | ⟨e, -⟩ | ⟨e, -⟩⟩ := panelStopOwner_after t record s
  · rw [e]
  · rw [e]; simp
  · rw [e]; exact (enterDraining_pictures _ _).trans (by simp)
  · rw [e]; exact (drainFromFault_pictures _ _).trans (by simp)

/-- The commands that may change a region or a staged byte. -/
def paints : Instr → Bool
  | .initClearEnd | .fetchBurstEnd _ | .orphanBurstEnd _ | .frameBoundary _ | .panelConfig => true
  | _ => false

/-- An operation that leaves the pictures alone, at the end of a step. -/
theorem finish_pictures {s u : State} (h : u.pictures = s.pictures) :
    Answers (fun t => t.pictures = s.pictures) (finish u) := (ofPanels_pictures_eq s).finish h

/-- The same for a command that acts under a condition. -/
theorem guarded_pictures {s u : State} {c : Prop} [Decidable c] (h : u.pictures = s.pictures) :
    Answers (fun t => t.pictures = s.pictures) (if c then finish u else .next s) :=
  answers_ite (fun _ => finish_pictures h) fun _ => answers_next.2 rfl

theorem dispatch_pictures {k : Kind} {o : RecordOwner} {s : State}
    (ho : ∀ t record u, ((o t record u).after u).pictures = u.pictures) :
    Answers (fun t => t.pictures = s.pictures) (dispatch k o s) :=
  (ofPanels_pictures_eq s).dispatch rfl fun t record u e => (ho t record u).trans (by simp_all)

/-- Every other command leaves the frame store and the staging pool as they are. -/
theorem exec_pictures (i : Instr) (hi : paints i = false) (s : State) :
    Answers (fun t => t.pictures = s.pictures) (exec i s) := by
  cases hr : reachesPanels i with
  | false => exact (exec_panels i hr s).mono (by simp_all)
  | true =>
    cases i with
    | resetNAssert => simp [exec, execResetNAssert, pinReset]
    | pfltAssert p =>
      exact answers_ite (fun _ => answers_next.2 rfl) fun _ => finish_pictures (by simp)
    | pfltRelease p => simp [exec, execPfltRelease]
    | usTick => exact finish_pictures (by simp)
    | msTick | timebasePeriodStep | filterHoldExpiry => exact guarded_pictures (by simp)
    | setupReadTimeout | setupReadEnd => exact guarded_pictures ((setupReadEnds_pictures _ _).trans (by simp))
    | enable v | softReset v | intEnable v => exact finish_pictures (writeControl_pictures v s)
    | rowTransfer p => simp only [exec, execRowTransfer]; split <;> simp
    | frameEnd p =>
      simp only [exec, execFrameEnd]
      split
      · exact guarded_pictures (endFrame_pictures p _ s)
      · simp
    | panelStart => exact dispatch_pictures panelStartOwner_pictures
    | panelStop => exact dispatch_pictures panelStopOwner_pictures
    | panelHold | panelWindow => exact dispatch_pictures (by simp)
    | initClearEnd | fetchBurstEnd | orphanBurstEnd | frameBoundary | panelConfig => cases hi
    | _ => cases hr

/-! ## The commands that paint -/

/-- FRAME_BOUNDARY paints its panel's region alone, and only on a RUNNING panel (R42). -/
theorem frameBoundary_paints (p : PanelId) (s : State) :
    Answers (fun t => PaintsOnly p s t ∧ ((s.port p).state ≠ .running → t.pictures = s.pictures))
      (exec (.frameBoundary p) s) := by
  refine answers_ite (fun _ => answers_finish.2 ⟨?_, fun h => ?_⟩)
    fun _ => answers_next.2 ⟨.refl p s, fun _ => rfl⟩
  · exact (paintsOnly_boundary p s).followed (by simp) (by simp)
  · exact .trans (by simp) (boundary_pictures h)

/-- PANEL_CONFIG clears the region of an OFF panel at most (R14). -/
theorem panelConfig_clears (s : State) :
    Answers (fun t => t.staging = s.staging ∧
      ∀ p, t.region p = s.region p ∨ (s.port p).state = .off ∧ t.region p = []) (exec .panelConfig s) := by
  refine OfPanels.dispatch (fun t u e h => ?_) ⟨rfl, fun p => .inl rfl⟩ fun t record u e => ?_
  · simp_all [State.region]
  · obtain ⟨hports, hregions, hstaging⟩ := panels_eq_iff.1 e
    refine ⟨by simp [hstaging], fun q => ?_⟩
    obtain h | ⟨p, h, hoff, -⟩ := panelConfigOwner_after t record u
    · exact .inl (by simp [h, State.region, hregions])
    · rw [h, configure]
      by_cases hq : p = q
      · subst hq
        exact .inr ⟨by simpa [State.port, hports] using hoff, by simp⟩
      · rw [State.setRegion_region_of_ne _ _ hq]
        exact .inl (by simp [State.region, hregions])

/-- The end of a fetch burst leaves the frame store alone and the staging pool canonical (R72). -/
theorem fetchBurstEnd_stages (a : ReadEnd) (s : State) :
    Answers (fun t => t.regions = s.regions ∧ (s.staging.wf = true → t.staging.wf = true))
      (exec (.fetchBurstEnd a) s) := by
  simp only [exec, execFetchBurstEnd]
  split
  · simp
  · refine answers_ite (fun _ => answers_finish.2 ⟨by simp, fun h => ?_⟩) fun _ => by simp
    unfold fetchEnds
    split
    · split <;> simpa [stageBurst] using stageBytes_wf h ..
    · simpa using h
    · simpa using h

/-- So does the end of an orphan's burst (R72, R76). -/
theorem orphanBurstEnd_stages (a : ReadEnd) (s : State) :
    Answers (fun t => t.regions = s.regions ∧ (s.staging.wf = true → t.staging.wf = true))
      (exec (.orphanBurstEnd a) s) := by
  simp only [exec, execOrphanBurstEnd]
  split
  · simp
  · split
    · refine answers_ite (fun _ => answers_finish.2 ⟨by simp, fun h => ?_⟩) fun _ => by simp
      unfold orphanEnds
      split
      · split
        · simpa using h
        · simpa [stageBurst] using stageBytes_wf h ..
      · simpa using h
      · simpa using h
    · simp

/-- The clearing of INIT leaves regions of shade 0 throughout (R2, R187). -/
theorem initClearEnd_clears (s : State) :
    Answers (fun t => t.staging = s.staging ∧ ∀ p, t.region p = s.region p ∨ t.region p = [])
      (exec .initClearEnd s) :=
  answers_ite (fun _ => answers_next.2 ⟨rfl, fun p => .inr (by simp [State.region])⟩)
    fun _ => answers_next.2 ⟨rfl, fun _ => .inl rfl⟩

/-! ## The obligations -/

/-- Settles O44: the five commands that paint, and all the others. -/
theorem picturesChangeOnlyWhereTheSpecSays : Obligations.PicturesChangeOnlyWhereTheSpecSays := by
  intro i s t h
  have region_eq {u : State} (e : u.regions = s.regions) (p : PanelId) : u.region p = s.region p := by
    simp [State.region, e]
  cases hi : paints i with
  | false =>
    obtain ⟨hr, hs⟩ := pictures_eq_iff.1 (exec_pictures i hi s t h)
    exact ⟨fun p => .inl (region_eq hr p), .inl hs⟩
  | true =>
    cases i with
    | initClearEnd => exact ⟨fun _ => .inr (.inl rfl), .inl (initClearEnd_clears s t h).1⟩
    | fetchBurstEnd a =>
      exact ⟨fun p => .inl (region_eq (fetchBurstEnd_stages a s t h).1 p), .inr (.inl ⟨a, .inl rfl⟩)⟩
    | orphanBurstEnd a =>
      exact ⟨fun p => .inl (region_eq (orphanBurstEnd_stages a s t h).1 p), .inr (.inl ⟨a, .inr rfl⟩)⟩
    | frameBoundary q =>
      obtain ⟨painted, still⟩ := frameBoundary_paints q s t h
      refine ⟨fun p => ?_, .inr (.inr ⟨q, rfl⟩)⟩
      by_cases hq : p = q
      · subst hq
        by_cases hrun : (s.port p).state = .running
        · exact .inr (.inr (.inl ⟨rfl, hrun⟩))
        · exact .inl (region_eq (pictures_eq_iff.1 (still hrun)).1 p)
      · exact .inl (painted.others p hq)
    | panelConfig =>
      obtain ⟨hs, hr⟩ := panelConfig_clears s t h
      exact ⟨fun p => (hr p).imp id fun c => .inr (.inr ⟨rfl, c.1⟩), .inl hs⟩
    | _ => cases hi

/-- Every command keeps the frame store and the staging pool in canonical form. -/
theorem exec_memoriesCanonical (i : Instr) {s : State} (hs : s.memoriesCanonical) :
    Answers State.memoriesCanonical (exec i s) := by
  intro t h
  have kept_or_cleared {p : PanelId} (e : t.region p = s.region p ∨ t.region p = []) : (t.region p).wf = true := by
    obtain e | e := e <;> rw [e]
    exacts [hs.2 p, rfl]
  have regions_kept (e : t.regions = s.regions) (p : PanelId) : (t.region p).wf = true :=
    kept_or_cleared (.inl (by simp [State.region, e]))
  cases hi : paints i with
  | false =>
    obtain ⟨hr, hst⟩ := pictures_eq_iff.1 (exec_pictures i hi s t h)
    exact ⟨hst ▸ hs.1, regions_kept hr⟩
  | true =>
    cases i with
    | initClearEnd =>
      obtain ⟨hst, hr⟩ := initClearEnd_clears s t h
      exact ⟨hst ▸ hs.1, fun p => kept_or_cleared (hr p)⟩
    | fetchBurstEnd a =>
      obtain ⟨hr, hst⟩ := fetchBurstEnd_stages a s t h
      exact ⟨hst hs.1, regions_kept hr⟩
    | orphanBurstEnd a =>
      obtain ⟨hr, hst⟩ := orphanBurstEnd_stages a s t h
      exact ⟨hst hs.1, regions_kept hr⟩
    | frameBoundary p => exact (frameBoundary_paints p s t h).1.canonical hs
    | panelConfig =>
      obtain ⟨hst, hr⟩ := panelConfig_clears s t h
      exact ⟨hst ▸ hs.1, fun p => kept_or_cleared ((hr p).imp_right And.right)⟩
    | _ => cases hi

/-- Settles O4: only the five commands that paint are in question, and what they write is canonical. -/
theorem everyStepKeepsMemoriesCanonical : Obligations.EveryStepKeepsMemoriesCanonical :=
  fun _ _ h hs => step_keeps (fun _ _ h => h) (fun i _ h => exec_memoriesCanonical i h) h hs

end Sys2Proof.Machine
end

section
/-! PROOFS. The checks of a PANEL_CONFIG, field by field on the record's bytes (R13), and the configuration that passes
them. -/

namespace Sys2Proof.Machine

/-! ## The first failing check -/

/-- Of a run of numbered checks the first that fails is found, when one fails. -/
theorem firstFailing_range'_some (fails : Nat → Bool) {n : Nat} (hn : fails n = true) :
    ∀ k a, a ≤ n → n < a + k → (∀ m, a ≤ m → m < n → fails m = false) →
      firstFailing ((List.range' a k).map fun m => (m, fails m)) = some n
  | 0, a, ha, hk, _ => by omega
  | k + 1, a, ha, hk, hlow => by
    rw [List.range'_succ, List.map_cons, firstFailing]
    by_cases h : a = n
    · subst h; simp [hn]
    · have hlt : a < n := by omega
      simp only [hlow a le_rfl hlt, Bool.false_eq_true, if_false]
      exact firstFailing_range'_some fails hn k (a + 1) hlt (by omega) fun m hm => hlow m (by omega)

/-- None is found exactly when none fails. -/
theorem firstFailing_eq_none_iff : ∀ {l : List (Nat × Bool)}, firstFailing l = none ↔ ∀ x ∈ l, x.2 = false
  | [] => by simp [firstFailing]
  | (n, b) :: l => by cases b <;> simp [firstFailing, firstFailing_eq_none_iff]

/-! ## The fields of a PANEL_CONFIG (R13) -/

/-- The owner's checks are those of R13, in the order of the fields: each is arithmetic on the field's bytes. -/
theorem configBody_failing (record : List Byte) [DecidablePred (configFieldPasses record)] :
    (configBody record).failing =
      firstFailing ((List.range' 2 12).map fun m => (m, decide ¬configFieldPasses record m)) := by
  unfold ConfigBody.failing
  congr 1
  simp only [List.range', List.map, List.cons.injEq, Prod.mk.injEq, true_and, and_true]
  refine ⟨?_, ?_, ?_, ?_, ?_, ?_, ?_, ?_, ?_, ?_, ?_, ?_⟩ <;> rw [Bool.eq_iff_iff] <;>
    simp only [Bool.or_eq_true, Bool.and_eq_true, Bool.not_eq_true', Bool.or_eq_false_iff, decide_eq_true_eq,
      bne_iff_ne, beq_iff_eq, beq_eq_false_iff_ne] <;>
    simp only [configFieldPasses, configBody] <;> omega

/-- A record is refused for the first field that R13 does not let pass. -/
theorem configBody_failing_some {record : List Byte} {n : Nat} (h2 : 2 ≤ n) (h13 : n ≤ 13)
    (hn : ¬configFieldPasses record n) (hlow : ∀ m, 2 ≤ m → m < n → configFieldPasses record m) :
    (configBody record).failing = some n := by
  classical
  rw [configBody_failing]
  exact firstFailing_range'_some _ (decide_eq_true hn) 12 2 h2 (by omega) fun m h h' => by simp [hlow m h h']

/-- No field is refused exactly when every field passes. -/
theorem configBody_failing_none_iff {record : List Byte} :
    (configBody record).failing = none ↔ ∀ n, 2 ≤ n → n ≤ 13 → configFieldPasses record n := by
  classical
  rw [configBody_failing, firstFailing_eq_none_iff]
  simp only [List.mem_map, List.mem_range'_1, forall_exists_index, and_imp]
  constructor
  · intro h n h2 h13
    simpa using h _ n h2 (by omega) rfl
  · rintro h _ n h2 h13 rfl
    simpa using h n h2 (by omega)

/-- The configuration of a record whose fields pass is within the ranges of R13. -/
theorem config_lawful {record : List Byte} (h : ∀ n, 2 ≤ n → n ≤ 13 → configFieldPasses record n) :
    (configBody record).config.lawful := by
  have passes : ∀ n, n ∈ List.range' 2 12 → configFieldPasses record n := fun n hn => by
    rw [List.mem_range'_1] at hn
    exact h n hn.1 (by omega)
  simp only [List.range', List.forall_mem_cons, configFieldPasses] at passes
  obtain ⟨hw, hh, hd, hl, ht, hb, hf, hlast, hdrive, hk, ha, hb', -⟩ := passes
  simp only [PanelConfig.lawful, ConfigBody.config, configBody]
  refine ⟨hw.1, hw.2.1, hw.2.2, hh.1, hh.2, hd, hl, ht.1, ht.2, hb.1, hb.2, hlast.1, hlast.2, ?_, ?_, ha, hb'⟩
  · obtain h0 | h1 | h2 : byteAt record 32 = 0 ∨ byteAt record 32 = 1 ∨ byteAt record 32 = 2 := by omega
    all_goals simp [*]
  · intro k e
    simp only [Option.ite_none_right_eq_some, Option.some.injEq, beq_iff_eq] at e
    obtain ⟨h2, rfl⟩ := e
    exact hk h2

end Sys2Proof.Machine
end

section
/-! PROOFS. Every command keeps every port lawful (O6): first what each operation on a single port keeps, then the
operations on the state, then the commands. -/

namespace Sys2Proof.Machine

/-! ## One port -/

/-- A change that leaves the configuration, the pending window and the balance as they are keeps a port lawful when the
new state fits them: configured but in OFF, frames only where frames run, and balance 0 in OFF. -/
theorem Port.lawful.moved {o o' : Port} (h : o.lawful) (hc : o'.config = o.config)
    (hw : o'.pendingWindow = o.pendingWindow) (hb : o'.balance = o.balance)
    (configured : o'.state ≠ .off → o.config.isSome) (frames : o'.frame.isSome → o'.state.runsFrames = true)
    (off : o'.state = .off → o.balance = false) : o'.lawful where
  config := by rw [hc]; exact h.config
  window := by rw [hc, hw]; exact h.window
  configured := by rw [hc]; exact configured
  frames := frames
  balanceOff := by rw [hb]; exact off
  balanceNone := by rw [hc, hb]; exact h.balanceNone

/-- A change that leaves the panel's state alone, too, and begins no frame. -/
theorem Port.lawful.stayed {o o' : Port} (h : o.lawful) (hc : o'.config = o.config)
    (hw : o'.pendingWindow = o.pendingWindow) (hb : o'.balance = o.balance) (hs : o'.state = o.state)
    (hf : o'.frame.isSome → o.frame.isSome) : o'.lawful :=
  h.moved hc hw hb (by rw [hs]; exact h.configured) (fun f => by rw [hs]; exact h.frames (hf f))
    (by rw [hs]; exact h.balanceOff)

/-- A move of a configured panel to a state that runs frames. -/
theorem Port.lawful.running {o o' : Port} (h : o.lawful) (hc : o'.config = o.config)
    (hw : o'.pendingWindow = o.pendingWindow) (hb : o'.balance = o.balance) (hs : o'.state.runsFrames = true)
    (configured : o.config.isSome) : o'.lawful :=
  h.moved hc hw hb (fun _ => configured) (fun _ => hs) fun off => by rw [off] at hs; cases hs

/-- A panel that runs frames is configured. -/
theorem Port.lawful.configured_of_runsFrames {o : Port} (h : o.lawful) (hr : o.state.runsFrames = true) :
    o.config.isSome := h.configured fun off => by rw [off] at hr; cases hr

theorem runsFrames_of_accepting {v : PanelState} (h : v.accepting = true) : v.runsFrames = true := by
  cases v <;> simp_all [PanelState.accepting, PanelState.runsFrames]

/-- A window within the rows keeps a configuration within the ranges of R13. -/
theorem PanelConfig.lawful.setWindow {c : PanelConfig} (h : c.lawful) {w : Nat × Nat} (hw : w.1 ≤ w.2)
    (hh : w.2 < c.height) : (c.setWindow w).lawful := by
  obtain ⟨h1, h2, h3, h4, h5, h6, h7, h8, h9, h10, h11, -, -, rest⟩ := h
  exact ⟨h1, h2, h3, h4, h5, h6, h7, h8, h9, h10, h11, hw, hh, rest⟩

/-- A window within the rows, written into the configuration. -/
theorem Port.lawful.windowWritten {o : Port} (h : o.lawful) {w : Nat × Nat}
    (hw : ∀ c, o.config = some c → w.1 ≤ w.2 ∧ w.2 < c.height) :
    ({ o with config := o.config.map (·.setWindow w) } : Port).lawful where
  config c e := by
    obtain ⟨c', hc, rfl⟩ := Option.map_eq_some_iff.1 e
    exact (h.config c' hc).setWindow (hw c' hc).1 (hw c' hc).2
  window c v e hv := by
    obtain ⟨c', hc, rfl⟩ := Option.map_eq_some_iff.1 e
    exact h.window c' v hc hv
  configured off := by rw [Option.isSome_map]; exact h.configured off
  frames := h.frames
  balanceOff := h.balanceOff
  balanceNone c e none := by
    obtain ⟨c', hc, rfl⟩ := Option.map_eq_some_iff.1 e
    exact h.balanceNone c' hc none

/-- The pending window recorded or dropped. -/
theorem Port.lawful.windowPending {o : Port} (h : o.lawful) {w : Option (Nat × Nat)}
    (hw : ∀ c v, o.config = some c → w = some v → v.1 ≤ v.2 ∧ v.2 < c.height) :
    ({ o with pendingWindow := w } : Port).lawful := { h with window := hw }

theorem Port.lawful.applyWindow {o : Port} (h : o.lawful) : (applyWindow o).lawful := by
  unfold Machine.applyWindow
  split
  · exact h
  · rename_i w hw
    exact (h.windowWritten fun c hc => h.window c w hc hw).windowPending fun _ _ _ e => by cases e

@[simp] theorem applyWindow_frame (o : Port) : (applyWindow o).frame = o.frame := by
  unfold applyWindow; split <;> rfl

@[simp] theorem applyWindow_balance (o : Port) : (applyWindow o).balance = o.balance := by
  unfold applyWindow; split <;> rfl

@[simp] theorem applyWindow_config_isSome (o : Port) : (applyWindow o).config.isSome = o.config.isSome := by
  unfold applyWindow; split <;> simp

theorem Port.lawful.changeWindow {o : Port} (h : o.lawful) {c : PanelConfig} {w : Nat × Nat} (hc : o.config = some c)
    (hw : w.1 ≤ w.2) (hh : w.2 < c.height) : (changeWindow w o).lawful := by
  have fits : ∀ c', o.config = some c' → w.1 ≤ w.2 ∧ w.2 < c'.height := fun c' e => by
    cases hc.symm.trans e
    exact ⟨hw, hh⟩
  unfold Machine.changeWindow
  split
  · exact h.windowPending fun c' v e ev => by cases ev; exact fits c' e
  · exact h.windowWritten fits

/-- The drive mode NONE keeps balance 0 over a frame start (R103). -/
theorem Port.lawful.beginFrame {o : Port} (h : o.lawful) {c : PanelConfig} (hc : o.config = some c)
    (hr : o.state.runsFrames = true) (areas : List Rect) : (beginFrame c areas o).lawful where
  config := h.config
  window := h.window
  configured := h.configured
  frames _ := hr
  balanceOff off := by rw [show o.state = .off from off] at hr; cases hr
  balanceNone c' e none := by
    cases hc.symm.trans e
    simp only [Machine.beginFrame, toggled, none, if_true]
    exact h.balanceNone c hc none

theorem Port.lawful.idle {o : Port} (h : o.lawful) : o.idle.lawful := h.stayed rfl rfl rfl rfl (by simp [Port.idle])

theorem advanceFrame_lawful {o : Port} (h : o.lawful) (c : PanelConfig) : (advanceFrame c o).lawful := by
  unfold advanceFrame
  split <;> exact h.stayed rfl rfl rfl rfl id

theorem portPinReset_lawful (o : Port) : o.pinReset.lawful where
  config _ e := by cases e
  window _ _ e := by cases e
  configured h := absurd rfl h
  frames h := by cases h
  balanceOff _ := rfl
  balanceNone _ e := by cases e

/-- A lawful configuration written to an OFF panel (R14). -/
theorem Port.lawful.configured_off {o : Port} (h : o.lawful) (hoff : o.state = .off) {c : PanelConfig}
    (hc : c.lawful) : ({ o with config := some c, pendingWindow := none } : Port).lawful where
  config _ e := by cases e; exact hc
  window _ _ _ e := by cases e
  configured _ := rfl
  frames := h.frames
  balanceOff := h.balanceOff
  balanceNone _ _ _ := h.balanceOff hoff

/-! ## The operations on the state -/

theorem ofPanels_portsLawful : OfPanels State.portsLawful := by
  intro s t e h p
  simpa only [State.port, (panels_eq_iff.1 e).1] using h p

theorem State.portsLawful.of_ports {s t : State} (h : s.portsLawful) (e : t.ports = s.ports) : t.portsLawful :=
  fun p => by simpa only [State.port, e] using h p

theorem State.portsLawful.setPort {s : State} (h : s.portsLawful) {p : PanelId} {o : Port} (ho : o.lawful) :
    (s.setPort p o).portsLawful := by
  intro q
  by_cases hq : p = q
  · subst hq; simpa using ho
  · simpa [State.setPort_port_of_ne s o hq] using h q

theorem boundary_portsLawful {p : PanelId} {s : State} (h : s.portsLawful) (hr : (s.port p).state.runsFrames = true) :
    (boundary p s).portsLawful := by
  unfold boundary
  split
  · exact h
  · rename_i c0 hc0
    dsimp only
    have ho : (applyWindow (advanceFrame c0 (s.port p))).lawful := (advanceFrame_lawful (h p) c0).applyWindow
    have hstate : (applyWindow (advanceFrame c0 (s.port p))).state = (s.port p).state := by simp
    generalize applyWindow (advanceFrame c0 (s.port p)) = o at ho hstate
    rw [← hstate] at hr
    obtain ⟨c, hc⟩ := Option.isSome_iff_exists.1 (ho.configured_of_runsFrames hr)
    have begun : (beginFrame (o.config.getD c0) (decidedAreas p s) o).lawful :=
      ho.beginFrame (by rw [hc]; rfl) hr _
    split
    · rw [show (boundaryWork p (o.config.getD c0) o.frameNumber (s.setPort p o)).port p = o by simp [State.port]]
      exact ((h.setPort (p := p) ho).of_ports (by simp)).setPort begun
    · rw [State.setPort_port]
      exact (h.setPort ho).setPort begun

theorem enterOff_portsLawful {p : PanelId} {s : State} (h : s.portsLawful) (hb : (s.port p).balance = false) :
    (enterOff p s).portsLawful := by
  refine State.portsLawful.of_ports (h.setPort (p := p) ((h p).idle.applyWindow.moved
    (o' := { applyWindow (s.port p).idle with state := .off, waitingStops := [] }) rfl rfl rfl ?_ ?_ ?_))
    (by simp [enterOff])
  · exact fun off => absurd rfl off
  · simp [Port.idle]
  · simp [Port.idle, hb]

theorem drainCheck_portsLawful {p : PanelId} {s : State} (h : s.portsLawful) (hd : (s.port p).state = .draining) :
    (drainCheck p s).portsLawful := by
  unfold drainCheck
  split
  · exact boundary_portsLawful h (by rw [hd]; rfl)
  · exact enterOff_portsLawful h (eq_false_of_ne_true ‹_›)

theorem takeFault_portsLawful {p : PanelId} {s : State} (h : s.portsLawful) (hc : (s.port p).config.isSome) :
    (takeFault p s).portsLawful := by
  have faulted := h.setPort (p := p) ((h p).idle.applyWindow.moved
    (o' := { applyWindow (s.port p).idle with state := .faulted, waitingStarts := [], waitingStops := [] }) rfl rfl rfl
    (fun _ => by simpa [Port.idle] using hc) (by simp [Port.idle]) (fun off => by cases off))
  refine faulted.of_ports ?_
  unfold takeFault
  dsimp only
  split <;> simp

theorem enterStarting_portsLawful {p : PanelId} {s : State} (h : s.portsLawful) (hc : (s.port p).config.isSome) :
    (enterStarting p s).portsLawful := by
  have started := h.setPort (p := p) ((h p).running
    (o' := { s.port p with state := .starting, frameNumber := 0, shadePhase := 0 }) rfl rfl rfl rfl hc)
  unfold enterStarting
  dsimp only
  split
  · exact takeFault_portsLawful started (by simpa using hc)
  · exact boundary_portsLawful started (by simp; rfl)

theorem enterDraining_portsLawful {p : PanelId} {s : State} (h : s.portsLawful) (hc : (s.port p).config.isSome) :
    (enterDraining p s).portsLawful := by
  have draining := h.setPort (p := p) ((h p).running
    (o' := { s.port p with state := .draining, waitingStarts := [] }) rfl rfl rfl rfl hc)
  unfold enterDraining
  dsimp only
  split
  · exact drainCheck_portsLawful (draining.of_ports (by simp)) (by simp [State.port])
  · exact draining.of_ports (by simp)

theorem drainFromFault_portsLawful {p : PanelId} {s : State} (h : s.portsLawful) (hc : (s.port p).config.isSome) :
    (drainFromFault p s).portsLawful :=
  drainCheck_portsLawful (h.setPort ((h p).running rfl rfl rfl rfl hc)) (by simp)

theorem softResetPort_portsLawful {s : State} (h : s.portsLawful) (p : PanelId) : (softResetPort s p).portsLawful := by
  unfold softResetPort
  dsimp only
  split
  · rename_i ha
    have hc := (h p).configured_of_runsFrames (runsFrames_of_accepting ha)
    have draining := h.setPort (p := p) ((h p).running
      (o' := { s.port p with state := .draining, waitingStarts := [], waitingStops := [] }) rfl rfl rfl rfl hc)
    split
    · exact drainCheck_portsLawful draining (by simp)
    · exact draining
  · split
    · exact h.setPort ((h p).stayed rfl rfl rfl rfl id)
    · exact h

theorem enterResetting_portsLawful {s : State} (h : s.portsLawful) : (enterResetting s).portsLawful :=
  List.foldlRecOn _ softResetPort (h.of_ports (by simp)) fun _ hu p _ => softResetPort_portsLawful hu p

theorem setupReadEnds_portsLawful {s : State} (h : s.portsLawful) (a : ReadEnd) : (setupReadEnds a s).portsLawful := by
  unfold setupReadEnds
  split
  · exact enterResetting_portsLawful h
  · repeat' split
    all_goals exact h.of_ports (by simp)

theorem writeControl_portsLawful {s : State} (h : s.portsLawful) (v : Word) : (writeControl v s).portsLawful := by
  have heard : (writeIntEnable (v.getLsbD 2) s).portsLawful := h.of_ports (by simp)
  unfold writeControl
  dsimp only
  split
  · split
    · unfold writeSoftReset
      split
      case h_2 | h_3 | h_4 | h_5 => exact enterResetting_portsLawful heard
      all_goals exact heard
    · exact heard.of_ports (by simp)
  · exact h

theorem reachRunning_portsLawful {p : PanelId} {s : State} (h : s.portsLawful) (hc : (s.port p).config.isSome) :
    (reachRunning p s).portsLawful :=
  (h.setPort (p := p) ((h p).running (o' := { s.port p with state := .running, waitingStarts := [] }) rfl rfl rfl rfl
    hc)).of_ports (by simp [reachRunning])

theorem afterFrame_portsLawful {p : PanelId} {s : State} (h : s.portsLawful) : (afterFrame p s).portsLawful := by
  unfold afterFrame
  split
  case h_1 hs => exact reachRunning_portsLawful h ((h p).configured (by simp [hs]))
  case h_2 hs => exact drainCheck_portsLawful h hs
  all_goals exact h

theorem endFrame_portsLawful {s : State} (h : s.portsLawful) (p : PanelId) (f : Frame) :
    (endFrame p f s).portsLawful :=
  afterFrame_portsLawful ((h.of_ports (by simp)).setPort
    ((h p).stayed (o' := { s.port p with frame := none }) rfl rfl rfl rfl fun e => by cases e))

theorem setFaultLine_portsLawful {s : State} (h : s.portsLawful) (p : PanelId) (v : Bool) :
    (setFaultLine p v s).portsLawful := h.setPort ((h p).stayed rfl rfl rfl rfl id)

theorem assertFault_portsLawful {s : State} (h : s.portsLawful) (p : PanelId) : (assertFault p s).portsLawful := by
  have asserted := setFaultLine_portsLawful h p true
  unfold assertFault
  dsimp only
  split
  · exact takeFault_portsLawful asserted ((asserted p).configured_of_runsFrames ‹_›)
  · exact asserted

theorem usConsumers_portsLawful {s : State} (h : s.portsLawful) : (usConsumers s).portsLawful := by
  intro p
  refine (h p).stayed (o' := (usConsumers s).port p) ?_ ?_ ?_ ?_ ?_ <;> simp [usConsumers, State.port]

theorem msConsumers_portsLawful {s : State} (h : s.portsLawful) : (msConsumers s).portsLawful := h.of_ports (by simp)

theorem tick_portsLawful {s : State} (h : s.portsLawful) : (tick s).portsLawful := by
  have counted (v : Timebase) : (usConsumers (s.setTb v)).portsLawful := usConsumers_portsLawful (h.of_ports rfl)
  unfold tick
  split
  · split
    · exact msConsumers_portsLawful (counted _)
    · exact counted _
  · exact h

theorem sendRow_lawful {o : Port} (h : o.lawful) {c : PanelConfig} {f : Frame} (hf : o.frame = some f) (m : Memory) :
    (sendRow c f m o).lawful := h.stayed rfl rfl rfl rfl fun _ => by simp [hf]

/-! ## The panel commands -/

theorem joinStarts_portsLawful {s : State} (h : s.portsLawful) (p : PanelId) (t : Ticket) :
    (joinStarts p t s).portsLawful := h.setPort ((h p).stayed rfl rfl rfl rfl id)

theorem joinStops_portsLawful {s : State} (h : s.portsLawful) (p : PanelId) (t : Ticket) :
    (joinStops p t s).portsLawful := h.setPort ((h p).stayed rfl rfl rfl rfl id)

theorem panelStartOwner_portsLawful {s : State} (h : s.portsLawful) (t : Ticket) (record : List Byte) :
    ((panelStartOwner t record s).after s).portsLawful := by
  obtain e | ⟨p, e | ⟨e, hs⟩⟩ := panelStartOwner_after t record s <;> rw [e]
  · exact h
  · exact joinStarts_portsLawful h p t
  · have hc : (s.port p).config.isSome := hs.elim And.right fun hf => (h p).configured (by simp [hf])
    exact enterStarting_portsLawful (joinStarts_portsLawful h p t) (by simpa [joinStarts] using hc)

theorem panelStopOwner_portsLawful {s : State} (h : s.portsLawful) (t : Ticket) (record : List Byte) :
    ((panelStopOwner t record s).after s).portsLawful := by
  obtain e | ⟨p, e | ⟨e, ha⟩ | ⟨e, hf⟩⟩ := panelStopOwner_after t record s <;> rw [e]
  · exact h
  · exact joinStops_portsLawful h p t
  · have hc := (h p).configured_of_runsFrames (runsFrames_of_accepting ha)
    exact enterDraining_portsLawful (joinStops_portsLawful h p t) (by simpa [joinStops] using hc)
  · have hc := (h p).configured (by simp [hf])
    exact drainFromFault_portsLawful (joinStops_portsLawful h p t) (by simpa [joinStops] using hc)

theorem panelHoldOwner_portsLawful {s : State} (h : s.portsLawful) (t : Ticket) (record : List Byte) :
    ((panelHoldOwner t record s).after s).portsLawful := by
  obtain e | ⟨p, v, e, ha, hv⟩ := panelHoldOwner_after t record s <;> rw [e]
  · exact h
  · have hc := (h p).configured_of_runsFrames (runsFrames_of_accepting ha)
    exact h.setPort ((h p).running rfl rfl rfl (by obtain rfl | rfl := hv <;> rfl) hc)

theorem panelWindowOwner_portsLawful {s : State} (h : s.portsLawful) (t : Ticket) (record : List Byte) :
    ((panelWindowOwner t record s).after s).portsLawful := by
  obtain e | ⟨p, c, w, e, hc, hw, hh⟩ := panelWindowOwner_after t record s <;> rw [e]
  · exact h
  · exact h.setPort ((h p).changeWindow hc hw hh)

theorem panelConfigOwner_portsLawful {s : State} (h : s.portsLawful) (t : Ticket) (record : List Byte) :
    ((panelConfigOwner t record s).after s).portsLawful := by
  obtain e | ⟨p, e, hoff, hpass⟩ := panelConfigOwner_after t record s <;> rw [e]
  · exact h
  · have hc := config_lawful (configBody_failing_none_iff.1 hpass)
    exact (h.setPort ((h p).configured_off hoff hc)).of_ports rfl

/-! ## The commands -/

theorem finish_portsLawful {s : State} (h : s.portsLawful) : Answers State.portsLawful (finish s) :=
  ofPanels_portsLawful.finish h

/-- A command that acts under a condition. -/
theorem guarded_portsLawful {s u : State} {c : Prop} [Decidable c] (hs : s.portsLawful) (h : u.portsLawful) :
    Answers State.portsLawful (if c then finish u else .next s) :=
  answers_ite (fun _ => finish_portsLawful h) fun _ => answers_next.2 hs

theorem dispatch_portsLawful {k : Kind} {o : RecordOwner} {s : State} (hs : s.portsLawful)
    (ho : ∀ {u : State}, u.portsLawful → ∀ t record, ((o t record u).after u).portsLawful) :
    Answers State.portsLawful (dispatch k o s) :=
  ofPanels_portsLawful.dispatch hs fun t record u e => ho (ofPanels_portsLawful s u e hs) t record

/-- Every command keeps every port lawful. -/
theorem exec_portsLawful (i : Instr) {s : State} (h : s.portsLawful) : Answers State.portsLawful (exec i s) := by
  cases hr : reachesPanels i with
  | false => exact (exec_panels i hr s).mono fun t e => ofPanels_portsLawful s t e h
  | true =>
    cases i with
    | resetNAssert => exact answers_next.2 fun p => by simpa [pinReset, State.port] using portPinReset_lawful (s.port p)
    | initClearEnd => exact answers_ite (fun _ => answers_next.2 h) fun _ => answers_next.2 h
    | pfltAssert p =>
      exact answers_ite (fun _ => answers_next.2 h) fun _ => finish_portsLawful (assertFault_portsLawful h p)
    | pfltRelease p => exact answers_next.2 (setFaultLine_portsLawful h p false)
    | usTick => exact finish_portsLawful (tick_portsLawful h)
    | msTick | timebasePeriodStep | filterHoldExpiry => exact guarded_portsLawful h (tick_portsLawful h)
    | setupReadTimeout | setupReadEnd =>
      exact guarded_portsLawful h (setupReadEnds_portsLawful (h.of_ports (by simp)) _)
    | enable v | softReset v | intEnable v => exact finish_portsLawful (writeControl_portsLawful h v)
    | fetchBurstEnd a =>
      simp only [exec, execFetchBurstEnd]
      split
      · exact answers_next.2 h
      · exact guarded_portsLawful h (h.of_ports (by simp))
    | orphanBurstEnd a =>
      simp only [exec, execOrphanBurstEnd]
      split
      · exact answers_next.2 h
      · split
        · exact guarded_portsLawful h (h.of_ports (by simp))
        · exact answers_next.2 h
    | frameBoundary p =>
      refine answers_ite (fun due => finish_portsLawful (boundary_portsLawful h ?_)) fun _ => answers_next.2 h
      obtain ⟨-, hrun | hfrozen⟩ : (s.port p).frame = none ∧ _ := by simpa [boundaryDue] using due
      · rw [hrun]; rfl
      · rw [hfrozen]; rfl
    | rowTransfer p =>
      simp only [exec, execRowTransfer]
      split
      · rename_i c f hdue
        have hf : (s.port p).frame = some f := by
          unfold rowDue at hdue
          split at hdue
          · split at hdue
            · cases hdue; assumption
            · cases hdue
          · cases hdue
        exact answers_next.2 (h.setPort (sendRow_lawful (h p) hf _))
      · exact answers_next.2 h
    | frameEnd p =>
      simp only [exec, execFrameEnd]
      split
      · exact guarded_portsLawful h (endFrame_portsLawful h p _)
      · exact answers_next.2 h
    | panelConfig => exact dispatch_portsLawful h panelConfigOwner_portsLawful
    | panelStart => exact dispatch_portsLawful h panelStartOwner_portsLawful
    | panelStop => exact dispatch_portsLawful h panelStopOwner_portsLawful
    | panelHold => exact dispatch_portsLawful h panelHoldOwner_portsLawful
    | panelWindow => exact dispatch_portsLawful h panelWindowOwner_portsLawful
    | _ => cases hr

/-- Settles O6: every operation on a port keeps it lawful, and no command reaches a port but through them. -/
theorem everyStepKeepsPortsLawful : Obligations.EveryStepKeepsPortsLawful :=
  fun _ _ h hs => step_keeps (fun _ _ h => h) (fun i _ h => exec_portsLawful i h) h hs

end Sys2Proof.Machine
end

section
/-! PROOFS. PANEL_CONFIG (O45): the owner's rulings, one for each of its checks, and the bindings and zones that name a
panel, counted place by place. -/

namespace Sys2Proof.Machine

/-! ## Bindings and zones by their places -/

/-- The binding places in their order are those of the tallies and slots in theirs (R136). -/
theorem finRange_eq_places : List.finRange 32 = places.map fun x => placeOf x.1 x.2 := by decide

theorem placed_eq (s : State) :
    s.placed = places.filterMap fun x => (s.binding x.1 x.2).map fun b => (x.1, x.2, b) := by
  simp [State.placed, places, List.filterMap_flatMap, List.filterMap_map]

theorem bindingsOn_eq (p : PanelId) (s : State) :
    bindingsOn p s = (List.finRange 32).countP fun i => s.bindings[i].any fun b => b.panel == p := by
  rw [bindingsOn, placed_eq, List.countP_filterMap, finRange_eq_places, List.countP_map]
  refine List.countP_congr fun x _ => ?_
  simp only [State.binding, Function.comp_apply]
  cases s.bindings[placeOf x.1 x.2] <;> simp

theorem zones_toList (s : State) : s.zones.toList = (List.finRange 16).map s.zone := by
  refine List.ext_getElem (by simp) fun i _ _ => ?_
  simp [State.zone]

theorem zonesOn_eq (p : PanelId) (s : State) :
    zonesOn p s = (List.finRange 16).countP fun z => (s.zone z).any fun v => v.panel == p := by
  rw [zonesOn, State.zonesSet, zones_toList, List.countP_filterMap, List.countP_map]
  refine List.countP_congr fun z _ => ?_
  simp only [Function.comp_apply, id]
  cases s.zone z <;> simp

/-! ## The owner's rulings (R12) -/

section
variable {t : Ticket} {record : List Byte} {s : State} {p : PanelId}

theorem panelConfigOwner_badPanel (h : 3 < byteAt record 16) :
    panelConfigOwner t record s = refuse .refusedParam 1 0 s := by
  simp [panelConfigOwner, idOf_big (n := 4) h]

theorem panelConfigOwner_notOff (hp : byteAt record 16 = p.val) (h : (s.port p).state ≠ .off) :
    panelConfigOwner t record s = refuse .refusedState 0 0 s := by
  simp [panelConfigOwner, idOf_val p hp, h]

theorem panelConfigOwner_badField (hp : byteAt record 16 = p.val) (h : (s.port p).state = .off) {n : Nat}
    (hf : (configBody record).failing = some n) : panelConfigOwner t record s = refuse .refusedParam n 0 s := by
  simp [panelConfigOwner, idOf_val p hp, h, hf]

theorem panelConfigOwner_inUse (hp : byteAt record 16 = p.val) (h : (s.port p).state = .off)
    (hf : (configBody record).failing = none) (hu : bindingsOn p s + zonesOn p s ≠ 0) :
    panelConfigOwner t record s = refuse .inUse (bindingsOn p s) (zonesOn p s) s := by
  simp only [panelConfigOwner, idOf_val p hp, h, hf, hu, ne_eq, not_true_eq_false, not_false_eq_true, if_true, if_false]

theorem panelConfigOwner_accepts (hp : byteAt record 16 = p.val) (h : (s.port p).state = .off)
    (hf : (configBody record).failing = none) (hu : bindingsOn p s + zonesOn p s = 0) :
    panelConfigOwner t record s = .answered .ok 0 0 (configure p (configBody record).config s) := by
  simp only [panelConfigOwner, idOf_val p hp, h, hf, hu, ne_eq, not_true_eq_false, if_false]

end

/-- The configuration that a record makes, on its bytes (1.6). -/
theorem configBody_config (record : List Byte) :
    (configBody record).config =
      { width := field16 record 18, height := field16 record 20, depth := byteAt record 22
        lanes := byteAt record 23, rowTime := field16 record 24, blankRows := byteAt record 26
        windowFirst := field16 record 28, windowLast := field16 record 30
        driveMode := if byteAt record 32 = 0 then .none else if byteAt record 32 = 1 then .frame else .rows
        driveRows := if byteAt record 32 = 2 then some (byteAt record 33) else none
        spreadA := byteAt record 34, spreadB := byteAt record 35 } := by
  simp [ConfigBody.config, configBody]

/-- A choice of CPo's leaves the frame store alone. -/
theorem SameButChoice.regions_eq {s t : State} (h : SameButChoice s t) : t.regions = s.regions := by
  obtain ⟨_, _, _, rfl⟩ := h.exists_eq
  rfl

/-- Settles O45: the owner's ruling for each check, and the effect of R14 for the record that passes them all. -/
theorem panelConfigRecords : Obligations.PanelConfigRecords := by
  intro s r record held
  have ports_taken (p : PanelId) : (afterTake s r).port p = s.port p := by simp [State.port]
  refine ⟨fun hbig => ?_, fun p hp => ⟨fun hs => ?_, fun hoff => ?_⟩⟩
  · exact dispatch_refused held (panelConfigOwner_badPanel hbig)
  · exact dispatch_refused held (panelConfigOwner_notOff hp (by rwa [ports_taken]))
  have hoff' : ((afterTake s r).port p).state = .off := by rwa [ports_taken]
  refine ⟨fun n h2 h13 hn hlow => ?_, fun hpass bs zs hbs hzs => ?_⟩
  · exact dispatch_refused held (panelConfigOwner_badField hp hoff' (configBody_failing_some h2 h13 hn hlow))
  have hf := configBody_failing_none_iff.2 hpass
  have hb : bindingsOn p (afterTake s r) = bs := by rw [hbs, bindingsOn_eq]; simp
  have hz : zonesOn p (afterTake s r) = zs := by rw [hzs, zonesOn_eq]; simp [State.zone]
  subst hb hz
  refine ⟨fun hu => dispatch_refused held (panelConfigOwner_inUse hp hoff' hf hu), fun hu => ?_⟩
  obtain ⟨t, e, ht⟩ := dispatch_answered held (by simp) (panelConfigOwner_accepts hp hoff' hf hu)
  have regions : t.regions = s.regions.set p [] := ht.regions_eq.trans (by simp [withRequest, configure])
  refine ⟨t, e, fun x y => ?_, fun q hq => ?_, ?_⟩
  · simp [State.region, regions, Memory.shade, Memory.read]
  · simp [State.region, regions, Fin.val_ne_of_ne (Ne.symm hq)]
  · rw [regions, ← configBody_config]
    refine Eq.mp (congrArg (SameButChoice · t) ?_) ht
    rw [configure, ports_taken]
    cases r <;> rfl

end Sys2Proof.Machine
end

section
/-! PROOFS. The packed forms lose nothing (O60): pixels of a packed row, digits, and little-endian fields. -/

namespace Sys2Proof.Machine

/-! ## Pixels (R4, R5) -/

/-- The number whose base-`B` digits are `g 0` to `g (n - 1)`, the first the most significant. -/
def digitNumber (B : Nat) (g : Nat → Nat) (n : Nat) : Nat := (List.range n).foldl (fun acc q => acc * B + g q) 0

theorem digitNumber_succ (B : Nat) (g : Nat → Nat) (n : Nat) :
    digitNumber B g (n + 1) = digitNumber B g n * B + g n := by
  simp [digitNumber, List.range_succ]

section
variable {B : Nat} {g : Nat → Nat} (hg : ∀ q, g q < B)
include hg

theorem digitNumber_lt (n : Nat) : digitNumber B g n < B ^ n := by
  induction n with
  | zero => simp [digitNumber]
  | succ n ih =>
    rw [digitNumber_succ]
    calc digitNumber B g n * B + g n < digitNumber B g n * B + B := Nat.add_lt_add_left (hg n) _
      _ = (digitNumber B g n + 1) * B := by ring
      _ ≤ B ^ (n + 1) := Nat.mul_le_mul_right B ih

/-- Each digit comes back. -/
theorem digitNumber_div_mod {n q : Nat} (hq : q < n) : digitNumber B g n / B ^ (n - 1 - q) % B = g q := by
  induction n with
  | zero => omega
  | succ n ih =>
    rw [digitNumber_succ]
    obtain rfl | hlt : q = n ∨ q < n := by omega
    · simp [Nat.mod_eq_of_lt (hg q)]
    · have hB : 0 < B := (hg 0).trans_le' (Nat.zero_le _)
      rw [show n + 1 - 1 - q = n - 1 - q + 1 by omega, pow_succ', ← Nat.div_div_eq_div_mul, Nat.mul_comm _ B,
        Nat.mul_add_div hB, Nat.div_eq_of_lt (hg n), Nat.add_zero, ih hlt]

end

/-- The shade of pixel `i` as a row of `w` pixels packs it: a pad pixel is 0 (R5). -/
def packedShade (f : Nat → Nat) (w d i : Nat) : Nat := if i < w then f i % 2 ^ d else 0

theorem packedShade_lt (f : Nat → Nat) (w d i : Nat) : packedShade f w d i < 2 ^ d := by
  unfold packedShade
  split
  · exact Nat.mod_lt _ (Nat.two_pow_pos d)
  · exact Nat.two_pow_pos d

/-- A packed byte's digits in base `2 ^ d` are its pixels, the first in the most significant bits (R4). -/
theorem packByte_toNat (f : Nat → Nat) (w : Nat) {d : Nat} (hd : d * (8 / d) = 8) (k : Nat) :
    (packByte f w d k).toNat = digitNumber (2 ^ d) (fun q => packedShade f w d (k * (8 / d) + q)) (8 / d) := by
  have fits := digitNumber_lt (g := fun q => packedShade f w d (k * (8 / d) + q))
    (fun q => packedShade_lt f w d _) (8 / d)
  rw [← pow_mul, hd] at fits
  exact Nat.mod_eq_of_lt fits

/-- Unpacking gives each pixel's shade back, and 0 for a pad pixel. -/
theorem unpackPixel_packByte (f : Nat → Nat) (w i : Nat) {d : Nat} (hd : d = 1 ∨ d = 2 ∨ d = 4) :
    unpackPixel (packByte f w d (i * d / 8)) i d = packedShade f w d i := by
  have hd8 : d * (8 / d) = 8 := by obtain rfl | rfl | rfl := hd <;> rfl
  generalize hn : 8 / d = n at hd8
  have hd0 : 0 < d := by omega
  have hn0 : 0 < n := Nat.pos_of_ne_zero fun h => by simp [h] at hd8
  have hbyte : i * d / 8 = i / n := by
    rw [← hd8, Nat.mul_comm i d, Nat.mul_div_mul_left _ _ hd0]
  have hbit : 8 - i * d % 8 - d = d * (n - 1 - i % n) := by
    rw [← hd8, Nat.mul_comm i d, Nat.mul_mod_mul_left, Nat.mul_sub, Nat.mul_sub, Nat.mul_one]
    omega
  have digit := digitNumber_div_mod (g := fun q => packedShade f w d (i / n * n + q))
    (fun q => packedShade_lt f w d _) (Nat.mod_lt i hn0)
  rw [unpackPixel, packByte_toNat f w (by rw [hn, hd8]), hn, hbyte, hbit, pow_mul, digit, Nat.div_add_mod']

/-! ## Digits (11.7.3) -/

theorem unpackDigits_packDigits : ∀ {v : List Nat}, (∀ x ∈ v, x < 16) → unpackDigits v.length (packDigits v) = v
  | [], _ => rfl
  | x :: v, h => by
    have hx : x < 16 := h x (List.mem_cons_self ..)
    have ih := unpackDigits_packDigits fun y hy => h y (List.mem_cons_of_mem x hy)
    simp only [packDigits, List.length_cons, unpackDigits, List.cons.injEq]
    exact ⟨by omega, by rw [show (x % 16 + 16 * packDigits v) / 16 = packDigits v by omega, ih]⟩

theorem packDigits_unpackDigits : ∀ n w : Nat, packDigits (unpackDigits n w) = w % 16 ^ n
  | 0, w => by simp [unpackDigits, packDigits, Nat.mod_one]
  | n + 1, w => by
    rw [unpackDigits, packDigits, packDigits_unpackDigits n, pow_succ', Nat.mod_mul, Nat.mod_mod]

/-! ## Little-endian fields (11.7) -/

theorem fieldAt_cons (b : Byte) (l : List Byte) : ∀ off n : Nat, fieldAt (b :: l) (off + 1) n = fieldAt l off n
  | _, 0 => rfl
  | off, n + 1 => by simp [fieldAt, byteAt, fieldAt_cons b l (off + 1) n]

theorem fieldAt_leBytes (rest : List Byte) : ∀ n v : Nat, fieldAt (leBytes n v ++ rest) 0 n = v % 256 ^ n
  | 0, v => by simp [fieldAt, Nat.mod_one]
  | n + 1, v => by
    rw [leBytes, List.cons_append, fieldAt, fieldAt_cons, fieldAt_leBytes rest n, pow_succ', Nat.mod_mul]
    simp [byteAt]

/-- Settles O60: a pixel by its place in its byte, a digit and a byte by recursion on the list. -/
theorem packedFormsComeBack : Obligations.PackedFormsComeBack := by
  refine ⟨fun f w d i hd hi => ?_, fun f w d i hd hi => ?_, fun v => unpackDigits_packDigits, packDigits_unpackDigits,
    fun n v rest => fieldAt_leBytes rest n v⟩
  · rw [unpackPixel_packByte f w i hd, packedShade, if_pos hi]
  · rw [unpackPixel_packByte f w i hd, packedShade, if_neg (Nat.not_lt.2 hi)]

end Sys2Proof.Machine
end

section
/-! PROOFS. The state right after a pin reset (O8): every indexed field of it, read at any index. -/

namespace Sys2Proof.Machine

@[simp] theorem reset_cin (n : LineId) : State.reset.cin n = CountInput.reset := by simp [State.cin, State.reset]
@[simp] theorem reset_group (g : Fin 4) : State.reset.group g = BlinkGroup.reset := by simp [State.group, State.reset]
@[simp] theorem reset_zone (z : Fin 16) : State.reset.zone z = none := by simp [State.zone, State.reset]
@[simp] theorem reset_tally (t : TallyId) : State.reset.tally t = Tally.reset := by simp [State.tally, State.reset]
@[simp] theorem reset_glyph (g : Fin 4) : State.reset.glyph g = .empty := by simp [State.glyph, State.reset]
@[simp] theorem reset_binding (t : TallyId) (k : Fin 2) : State.reset.binding t k = none := by
  simp [State.binding, State.reset]
@[simp] theorem reset_slot (i : Fin 24) : State.reset.slot i = .free := by simp [State.slot, State.reset]
@[simp] theorem reset_channel (c : Fin 4) : State.reset.channel c = .free := by simp [State.channel, State.reset]
@[simp] theorem reset_port (p : PanelId) : State.reset.port p = Port.reset := by simp [State.port, State.reset]
@[simp] theorem reset_list (p : PanelId) : State.reset.list p = [] := by simp [State.list, State.reset]
@[simp] theorem reset_ring (r : RingId) : State.reset.ring r = Ring.reset := by cases r <;> rfl
@[simp] theorem reset_panelFaultEvent (p : PanelId) : State.reset.panelFaultEvent p = none := by
  simp [State.panelFaultEvent, State.reset, Poster.reset]
@[simp] theorem reset_ringFaultEvent (r : RingId) : State.reset.ringFaultEvent r = none := by cases r <;> rfl

/-- Settles O8: the blocks one after another, each against its reset record. -/
theorem resetHoldsThePinResetValues : Obligations.ResetHoldsThePinResetValues := by
  have hdev : State.reset.dev = Device.reset := rfl
  have htb : State.reset.tb = Timebase.reset := rfl
  have htransfer : State.reset.waitQueue = [] ∧ State.reset.rrNext = 0 ∧ State.reset.flight = none :=
    ⟨rfl, rfl, rfl⟩
  have hpass : State.reset.passOver = 0 := rfl
  have hcpo : State.reset.cpo = Poster.reset := rfl
  unfold Obligations.ResetHoldsThePinResetValues
  simp [hdev, htb, htransfer, hpass, hcpo, Device.reset, Timebase.reset, CountInput.reset, BlinkGroup.reset,
    Tally.reset, Port.reset, Ring.reset, Poster.reset]

end Sys2Proof.Machine
end

section
/-! PROOFS. The bytes of the next burst of a data operation (O31): where its run and its 256-byte block end, and that a
run's staged bytes have consecutive host addresses. -/

namespace Sys2Proof.Machine

/-- Staged bytes are left, and a row holds at least one byte: the operation has a next burst (R71). -/
structure Operation.Unfinished (op : Operation) : Prop where
  rowBytes_pos : 0 < op.rowBytes
  bytesLeft : op.done < op.total

namespace Operation.Unfinished

variable {op : Operation} (h : op.Unfinished)
include h

/-- The row of the next staged byte is one of the operation's. -/
theorem row_end_le_total : op.rowBytes * (op.done / op.rowBytes + 1) ≤ op.total :=
  Nat.mul_le_mul_left _ (Nat.div_lt_of_lt_mul h.bytesLeft)

theorem runLeft_pos : 0 < op.runLeft := by
  have inRow := Nat.mod_lt op.done h.rowBytes_pos
  have left := h.bytesLeft
  unfold Operation.runLeft
  split <;> omega

/-- The run of the next staged byte ends within the operation. -/
theorem done_add_runLeft_le_total : op.done + op.runLeft ≤ op.total := by
  have row := h.row_end_le_total
  have split_done := Nat.div_add_mod op.done op.rowBytes
  have inRow := Nat.mod_lt op.done h.rowBytes_pos
  have left := h.bytesLeft
  rw [Nat.mul_succ] at row
  unfold Operation.runLeft
  split <;> omega

/-- Within a run host addresses follow the staged bytes (R72): the rows lie end to end, or the run stays in one row. -/
theorem hostAddress_add {j : Nat} (hj : j < op.runLeft) :
    op.hostAddress (op.done + j) = op.hostAddress op.done + j := by
  unfold Operation.runLeft at hj
  unfold Operation.hostAddress
  split at hj
  · next endToEnd =>
    have here := Nat.div_add_mod op.done op.rowBytes
    have there := Nat.div_add_mod (op.done + j) op.rowBytes
    rw [endToEnd]
    omega
  · have inRow : op.done % op.rowBytes + j < op.rowBytes := by omega
    have short : j < op.rowBytes := by omega
    have row : (op.done + j) / op.rowBytes = op.done / op.rowBytes := by
      rw [Nat.add_div h.rowBytes_pos, Nat.div_eq_of_lt short, Nat.mod_eq_of_lt short, if_neg (Nat.not_le.2 inRow),
        Nat.add_zero]
    have column : (op.done + j) % op.rowBytes = op.done % op.rowBytes + j := by
      rw [Nat.add_mod, Nat.mod_eq_of_lt short, Nat.mod_eq_of_lt inRow]
    rw [row, column]
    omega

end Operation.Unfinished

theorem Operation.burstLength_le_runLeft (op : Operation) : op.burstLength ≤ op.runLeft := Nat.min_le_left ..

theorem Operation.burstLength_le_block (op : Operation) :
    op.burstLength ≤ 256 - op.hostAddress op.done % 256 := Nat.min_le_right ..

theorem Operation.Unfinished.burstLength_pos {op : Operation} (h : op.Unfinished) : 1 ≤ op.burstLength := by
  have run := h.runLeft_pos
  have block : op.hostAddress op.done % 256 < 256 := Nat.mod_lt _ (by decide)
  simp only [Operation.burstLength, Config.burstBytes]
  omega

/-- Settles O31: a burst ends with its run or with its block, whichever comes first. -/
theorem burstsStayInsideAlignedBlocks : Obligations.BurstsStayInsideAlignedBlocks := by
  intro op hrow _ hleft
  have h : op.Unfinished := ⟨hrow, hleft⟩
  have run := op.burstLength_le_runLeft
  have block := op.burstLength_le_block
  have pos := h.burstLength_pos
  have within := h.done_add_runLeft_le_total
  refine ⟨pos, by omega, by omega, by omega, fun j hj => h.hostAddress_add (by omega)⟩

end Sys2Proof.Machine
end

section
/-! PROOFS. The issue of a burst (O26, O32): what the arbiter issues in each class, and the bytes of CPo's records. -/

namespace Sys2Proof.Machine

/-! ## The arbiter's classes (R68, R79) -/

theorem exec_burstIssue {s : State} (bus : s.flight = none) : exec .burstIssue s = finish (issue s) := by
  simp [exec, execBurstIssue, bus]

theorem issue_presented_completion {s : State} (w : s.writing = true) (h : s.cpo.presented = some .completion) :
    issue s = issueCompletion s := by
  simp [issue, w, h]

theorem issue_presented_event {s : State} {e : EventSource} (w : s.writing = true)
    (h : s.cpo.presented = some (.event e)) : issue s = issueEvent e s := by
  simp [issue, w, h]

theorem setupWaits_of_not_setup {s : State} (h : s.dev.state ≠ .setup) : s.setupWaits = none := if_neg h

theorem writing_iff {s : State} : s.writing = true ↔ s.dev.state = .active ∨ s.dev.state = .paused := by
  simp [State.writing]

theorem takesIndices_iff {s : State} :
    s.takesIndices = true ↔ s.dev.state = .active ∨ s.dev.state = .paused ∨ s.dev.state = .qfault := by
  simp [State.takesIndices, or_assoc]

/-- A record read waits in ACTIVE and PAUSED for a RUNNING ring whose holder is empty and whose ring is not (R161). -/
theorem ringWaits_iff {s : State} {r : RingId} :
    s.ringWaits r = true ↔ (s.dev.state = .active ∨ s.dev.state = .paused) ∧ (s.ring r).state = .running ∧
      (s.ring r).holder = none ∧ (s.ring r).head ≠ (s.ring r).tail := by
  simp [State.ringWaits, writing_iff, and_assoc]

/-- The channels in the round robin's order, cut at one of them. -/
theorem finRange_four_cut : ∀ k : Fin 4,
    List.finRange 4 = (List.finRange 4).take k ++ k :: (List.finRange 4).drop (k + 1) ∧
      ∀ j ∈ (List.finRange 4).take k, j < k := by decide

/-- The first LOADED channel from the pointer onward presents its burst (R68). -/
theorem nextChannel_eq_some {s : State} {k : Fin 4} {op : Operation} (loaded : s.channel (s.rrNext + k) = .loaded op)
    (first : ∀ j, j < k → ∀ op', s.channel (s.rrNext + j) ≠ .loaded op') :
    s.nextChannel = some (s.rrNext + k, op) := by
  obtain ⟨order, before⟩ := finRange_four_cut k
  unfold State.nextChannel
  rw [List.findSome?_map, List.findSome?_eq_some_iff]
  refine ⟨_, k, _, order, by simp [loaded], fun j hj => ?_⟩
  dsimp only [Function.comp_apply]
  split
  · next op' h => exact absurd h (first j (before j hj) op')
  · rfl
  · rfl

/-! ## The order below CPo's writes (R68, R161) -/

section
variable {s : State} (none_presented : s.cpo.presented = none)
include none_presented

theorem issue_setup {a : Addr} (hs : s.dev.state = .setup) (ha : s.dev.setupRead = some a) :
    issue s = issueSetup a s := by
  simp [issue, none_presented, State.setupWaits, hs, ha]

theorem issue_below_setup (hs : s.dev.state ≠ .setup) : issue s = issueRecordsAndData s := by
  simp [issue, none_presented, setupWaits_of_not_setup hs]

/-- Ring U's record read comes before ring B's. -/
theorem issue_ring {r : RingId} (waits : s.ringWaits r = true) (uIdle : r = .b → s.ringWaits .u = false) :
    issue s = issueRead (.ring r) (s.ringBase r + 64 * (s.ring r).head) s := by
  have hs : s.dev.state ≠ .setup := by
    obtain ⟨hd | hd, -⟩ := ringWaits_iff.1 waits <;> simp [hd]
  rw [issue_below_setup none_presented hs, issueRecordsAndData]
  cases r with
  | u => rw [if_pos waits]; rfl
  | b => rw [uIdle rfl, if_neg Bool.false_ne_true, if_pos waits]; rfl

/-- The channels come after both rings. -/
theorem issue_channel {c : Fin 4} {op : Operation} (hs : s.takesIndices = true)
    (idle : ∀ r, s.ringWaits r = false) (next : s.nextChannel = some (c, op)) : issue s = issueChannel c op s := by
  have notSetup : s.dev.state ≠ .setup := by
    obtain hd | hd | hd := takesIndices_iff.1 hs <;> simp [hd]
  rw [issue_below_setup none_presented notSetup]
  simp [issueRecordsAndData, idle, hs, next]

/-- In INIT, HALTED and RESETTING no transfer is issued (R79). -/
theorem issue_nothing (hs : s.dev.state = .init ∨ s.dev.state = .halted ∨ s.dev.state = .resetting) :
    issue s = s := by
  have notSetup : s.dev.state ≠ .setup := by
    obtain hd | hd | hd := hs <;> simp [hd]
  have taken : s.takesIndices = false := by
    obtain hd | hd | hd := hs <;> simp [State.takesIndices, hd]
  have idle (r : RingId) : s.ringWaits r = false := by
    obtain hd | hd | hd := hs <;> simp [State.ringWaits, State.writing, hd]
  rw [issue_below_setup none_presented notSetup]
  simp [issueRecordsAndData, idle, taken]

end

/-- An issue takes place on the free bus, and CPo's choice follows it. -/
theorem burstIssue_next {s u : State} (bus : s.flight = none) (issued : issue s = u) :
    ∃ t, exec .burstIssue s = .next t ∧ SameButChoice u t := by
  rw [exec_burstIssue bus, issued]
  exact finish_next u

/-- Settles O32: class by class, the first that waits is issued. -/
theorem arbiterOrder : Obligations.ArbiterOrder := by
  intro s bus noWrite
  refine ⟨fun a hs ha => ?setup, fun r hs running empty pending uIdle => ?ring,
    fun k op hs ringsIdle loaded first => ?channel, fun hs => burstIssue_next bus (issue_nothing noWrite hs)⟩
  case setup => exact burstIssue_next bus (issue_setup noWrite hs ha)
  case ring =>
    refine burstIssue_next bus (issue_ring noWrite (ringWaits_iff.2 ⟨hs, running, empty, pending⟩) fun hr => ?_)
    rw [← Bool.not_eq_true, ringWaits_iff]
    rintro ⟨-, runU, emptyU, pendingU⟩
    obtain h | h | h := uIdle hr
    · exact h runU
    · simp [show s.ringU.holder = none from emptyU] at h
    · exact pendingU h
  case channel =>
    refine burstIssue_next bus
      (issue_channel noWrite (takesIndices_iff.2 hs) (fun r => ?_) (nextChannel_eq_some loaded first))
    rw [← Bool.not_eq_true, ringWaits_iff]
    rintro ⟨hw, run, empty, pending⟩
    obtain h | h | h | h := ringsIdle r
    · exact h run
    · simp [empty] at h
    · exact pending h
    · simp [h] at hw

end Sys2Proof.Machine
end

section
/-! PROOFS. CPo's records on the bus (O26): the bytes of a completion and of an event, and that the issue of an event
clears its one source. -/

namespace Sys2Proof.Machine

/-! ## The bytes of a record (11.7.2) -/

/-- A field of `n` bytes holds its value modulo `256 ^ n`. -/
theorem leBytes_mod : ∀ n v : Nat, leBytes n (v % 256 ^ n) = leBytes n v
  | 0, _ => rfl
  | n + 1, v => by
    have low : BitVec.ofNat 8 (v % 256 ^ (n + 1)) = BitVec.ofNat 8 v :=
      BitVec.eq_of_toNat_eq (by simp [pow_succ])
    rw [leBytes, leBytes, low, pow_succ', Nat.mod_mul_right_div_self, leBytes_mod n]

@[simp] theorem leBytes_word (n : Nat) : leBytes 4 (word n).toNat = leBytes 4 n := leBytes_mod 4 n

/-- A value's digits, one below 16 in each, are the packed-digit form of 11.7.3. -/
theorem packDigits_eq_packedForm : ∀ {v : List Nat}, (∀ x ∈ v, x < 16) → packDigits v = packedForm v
  | [], _ => rfl
  | x :: v, h => by
    have ih := packDigits_eq_packedForm fun y hy => h y (List.mem_cons_of_mem x hy)
    have hx : x < 16 := h x (List.mem_cons_self ..)
    simp [packDigits, packedForm, ih, Nat.mod_eq_of_lt hx, List.range_succ_eq_map, Function.comp_def, pow_succ',
      Nat.mul_left_comm _ 16, List.sum_map_mul_left]

/-- A value's digits are below any bound on the moduli. -/
theorem lt_of_isValue {b : Nat} : ∀ {ms vs : List Nat}, isValue ms vs → (∀ m ∈ ms, m ≤ b) → ∀ v ∈ vs, v < b
  | [], [], _, _ => by simp
  | [], _ :: _, h, _ => h.elim
  | _ :: _, [], h, _ => h.elim
  | m :: ms, v :: vs, h, hm => by
    obtain ⟨first, rest⟩ := h
    intro x hx
    obtain rfl | hx := List.mem_cons.1 hx
    · exact first.trans_le (hm m (List.mem_cons_self ..))
    · exact lt_of_isValue rest (fun m' h' => hm m' (List.mem_cons_of_mem m h')) x hx

theorem packed_eq_reported {s : State} (h : s.talliesLawful) (k : TallyId) :
    (s.tally k).packed = (s.tally k).reported := by
  obtain ⟨lawful, -, -⟩ := h k
  unfold Tally.packed Tally.reported
  cases hd : (s.tally k).defn with
  | none => rfl
  | some d =>
    obtain ⟨⟨-, -, moduli, value, -⟩, -⟩ := lawful d hd
    have digits := lt_of_isValue value fun m hm => (moduli m hm).2
    exact packDigits_eq_packedForm fun x hx => (digits x hx).trans (by decide)

/-- An event's record has the kind and the details of its source. -/
theorem eventBytes_eq {s : State} (h : s.talliesLawful) (e : EventSource) :
    eventBytes e s = leBytes 4 0 ++ leBytes 2 (eventRecord s e).1 ++ leBytes 1 0 ++
      leBytes 1 (2 + if s.cpo.phase then 128 else 0) ++
      leBytes 4 (eventRecord s e).2.1 ++ leBytes 4 (eventRecord s e).2.2 := by
  unfold eventBytes completionBytes
  cases e with
  | ringFault r =>
    simp only [eventDetailA, eventDetailB, leBytes_word, eventRecord]
    cases r <;> cases s.ringFaultEvent _ with
    | none => rfl
    | some c => cases c <;> rfl
  | panelFault p => simp [eventDetailA, eventDetailB, eventRecord, EventSource.kindCode, Status.code, eventOrigin]
  | tallyEnd k =>
    simp [eventDetailA, eventDetailB, eventRecord, EventSource.kindCode, Status.code, eventOrigin,
      packed_eq_reported h, Nat.mul_comm]
  | tallyWatch k =>
    simp [eventDetailA, eventDetailB, eventRecord, EventSource.kindCode, Status.code, eventOrigin,
      packed_eq_reported h, Nat.mul_comm]

/-! ## The source of an event -/

theorem clearEvent_tally (e : EventSource) (s : State) (k : TallyId) :
    (clearEvent e s).tally k = { s.tally k with
      endCount := if e = .tallyEnd k then 0 else (s.tally k).endCount
      watchCount := if e = .tallyWatch k then 0 else (s.tally k).watchCount } := by
  cases e with
  | ringFault r => cases r <;> rfl
  | panelFault p => rfl
  | tallyEnd j =>
    by_cases h : j = k
    · subst h; simp [clearEvent]
    · simp [clearEvent, State.setTally_tally_of_ne _ _ h, h]
  | tallyWatch j =>
    by_cases h : j = k
    · subst h; simp [clearEvent]
    · simp [clearEvent, State.setTally_tally_of_ne _ _ h, h]

theorem clearEvent_ringFaultEvent (e : EventSource) (s : State) (r : RingId) :
    (clearEvent e s).ringFaultEvent r = if e = .ringFault r then none else s.ringFaultEvent r := by
  cases e with
  | ringFault q => cases q <;> cases r <;> rfl
  | panelFault p => cases r <;> rfl
  | tallyEnd j => cases r <;> rfl
  | tallyWatch j => cases r <;> rfl

theorem clearEvent_panelFaultEvent (e : EventSource) (s : State) (p : PanelId) :
    (clearEvent e s).panelFaultEvent p = if e = .panelFault p then none else s.panelFaultEvent p := by
  cases e with
  | ringFault q => cases q <;> rfl
  | panelFault q =>
    by_cases h : q = p
    · subst h; simp [clearEvent, State.panelFaultEvent]
    · simp [clearEvent, State.panelFaultEvent, h, Fin.val_ne_of_ne h]
  | tallyEnd j => rfl
  | tallyWatch j => rfl

/-- The source is clear, and every other is as it was (R180). -/
theorem clearEvent_eventSet (e e' : EventSource) (s : State) :
    (clearEvent e s).eventSet e' = if e' = e then false else s.eventSet e' := by
  unfold State.eventSet
  cases e' with
  | ringFault r => simp only [clearEvent_ringFaultEvent, eq_comm (a := e)]; split <;> rfl
  | panelFault p => simp only [clearEvent_panelFaultEvent, eq_comm (a := e)]; split <;> rfl
  | tallyEnd k => simp only [clearEvent_tally, eq_comm (a := e)]; split <;> rfl
  | tallyWatch k => simp only [clearEvent_tally, eq_comm (a := e)]; split <;> rfl

/-- Of CPo's record a cleared event leaves all but the sources held there. -/
theorem clearEvent_cpo (e : EventSource) (s : State) :
    (clearEvent e s).cpo = { s.cpo with
      panelFaults := (clearEvent e s).cpo.panelFaults, ringFaultU := (clearEvent e s).cpo.ringFaultU
      ringFaultB := (clearEvent e s).cpo.ringFaultB } := by
  cases e with
  | ringFault r => cases r <;> rfl
  | panelFault p => rfl
  | tallyEnd k => rfl
  | tallyWatch k => rfl

theorem clearEvent_eq (e : EventSource) (s : State) :
    clearEvent e s = { s with tallies := (clearEvent e s).tallies, cpo := (clearEvent e s).cpo } := by
  cases e with
  | ringFault r => cases r <;> rfl
  | panelFault p => rfl
  | tallyEnd k => rfl
  | tallyWatch k => rfl

/-! ## The issue (R68, R178) -/

/-- With CPo's write in flight there is nothing to withdraw and nothing to choose. -/
theorem finish_issuePoster (w : PosterWrite) (data : List Byte) (s : State) :
    finish (issuePoster w data s) = .next (issuePoster w data s) := by
  simp [finish, withdrawStaleEvent, chooseWrite, issuePoster, State.posterInFlight]

theorem completion_bytes (c : Completion) (phase : Bool) :
    c.bytes phase = leBytes 4 c.ticket.tag.toNat ++ leBytes 2 c.ticket.kind.toNat ++ leBytes 1 c.status.code ++
      leBytes 1 ((if c.ticket.ring = .u then 0 else 1) + if phase then 128 else 0) ++
      leBytes 4 c.detailA.toNat ++ leBytes 4 c.detailB.toNat := by
  unfold Completion.bytes completionBytes
  cases c.ticket.ring <;> rfl

section
variable {s : State} (bus : s.flight = none) (hs : s.dev.state = .active ∨ s.dev.state = .paused)
include bus hs

theorem exec_burstIssue_completion {c : Completion} {rest : List Completion}
    (hp : s.cpo.presented = some .completion) (hq : s.cpo.queue = c :: rest) :
    exec .burstIssue s = .next
      (issuePoster (.completion c) (c.bytes s.cpo.phase) (s.setCpo { s.cpo with queue := rest })) := by
  rw [exec_burstIssue bus, issue_presented_completion (writing_iff.2 hs) hp]
  simp only [issueCompletion, hq, finish_issuePoster]

theorem exec_burstIssue_event {e : EventSource} (hp : s.cpo.presented = some (.event e)) :
    exec .burstIssue s = .next (issuePoster (.event e) (eventBytes e s) (clearEvent e s)) := by
  rw [exec_burstIssue bus, issue_presented_event (writing_iff.2 hs) hp, issueEvent, finish_issuePoster]

end

theorem clearEvent_postAddress (e : EventSource) (s : State) : (clearEvent e s).postAddress = s.postAddress := by
  unfold State.postAddress State.completionBase
  rw [clearEvent_cpo, clearEvent_eq]

/-- An issue leaves every source as it is. -/
theorem issuePoster_eventSet (w : PosterWrite) (data : List Byte) (s : State) (e : EventSource) :
    (issuePoster w data s).eventSet e = s.eventSet e := by
  cases e <;> rfl

/-- Settles O26: the presented write is issued as it stands, and the issue of an event is a cleared source. -/
theorem posterWritesAreIssuedFirst : Obligations.PosterWritesAreIssuedFirst := by
  intro s bus hs
  refine ⟨fun c rest hp hq => ⟨_, exec_burstIssue_completion bus hs hp hq, ?completion⟩, by decide,
    fun e hp => ⟨_, eventBytes e s, exec_burstIssue_event bus hs hp, ?flight, fun h => eventBytes_eq h e,
      clearEvent_tally e s, clearEvent_ringFaultEvent e s, clearEvent_panelFaultEvent e s, ?cleared,
      fun e' he => ?others, ?frame⟩⟩
  case completion =>
    rw [completion_bytes]
    rfl
  case flight => rw [issuePoster, clearEvent_postAddress]; rfl
  case cleared => rw [issuePoster_eventSet, clearEvent_eventSet, if_pos rfl]
  case others => rw [issuePoster_eventSet, clearEvent_eventSet, if_neg he]
  case frame =>
    rw [issuePoster, clearEvent_cpo, clearEvent_eq]
    rfl

end Sys2Proof.Machine
end

section
/-! PROOFS. The ends of bursts: a timeout at each requester (O38), and an orphan's burst (O37), with the staged bytes
that a fetch writes and the stalls that the freed slots release. -/

namespace Sys2Proof.Machine

/-! ## Timeouts (R73) -/

section
variable {s : State} {f : Flight} (flying : s.flight = some f)
include flying

theorem exec_burstTimeout_early (early : f.elapsed < s.burstTimeoutUs) : exec .burstTimeout s = .next s := by
  simp [exec, execBurstTimeout, flying, Flight.expired, early]

variable (due : s.burstTimeoutUs ≤ f.elapsed)
include due

theorem exec_burstTimeout_due : exec .burstTimeout s = finish (timeoutEnds f.requester s) := by
  simp [exec, execBurstTimeout, flying, Flight.expired, due]

theorem exec_burstTimeout_ring {r : RingId} (hr : f.requester = .ring r) :
    exec .burstTimeout s = exec (.ringReadEnd .timeout) s := by
  rw [exec_burstTimeout_due flying due]
  simp [exec, execRingReadEnd, flying, hr, readMayEnd, Flight.expired, due, timeoutEnds]

theorem exec_burstTimeout_poster {w : PosterWrite} (hw : f.requester = .poster w) :
    exec .burstTimeout s = exec (.completionWriteEnd .timeout) s := by
  rw [exec_burstTimeout_due flying due]
  simp [exec, execCompletionWriteEnd, flying, hw, writeMayEnd, Flight.expired, due, timeoutEnds]

theorem exec_burstTimeout_orphan {op : Operation} (hop : f.requester = .orphan op) :
    exec .burstTimeout s = exec (.orphanBurstEnd .timeout) s := by
  rw [exec_burstTimeout_due flying due]
  simp [exec, execOrphanBurstEnd, flying, hop, readMayEnd, Flight.expired, due, timeoutEnds]

/-- A channel's burst ends as a write-back's or as a fetch's, by its operation. -/
theorem exec_burstTimeout_channel {c : Fin 4} {op : Operation} (hc : f.requester = .channel c)
    (hop : s.channel c = .inFlight op) :
    exec .burstTimeout s =
      if op.write then exec (.writeBackBurstEnd .timeout) s else exec (.fetchBurstEnd .timeout) s := by
  have burst : s.dataBurst = some (f, c, op) := by simp [State.dataBurst, flying, hc, hop]
  rw [exec_burstTimeout_due flying due]
  cases hw : op.write with
  | true => simp [exec, execWriteBackBurstEnd, burst, hc, hop, hw, writeMayEnd, Flight.expired, due, timeoutEnds]
  | false => simp [exec, execFetchBurstEnd, burst, hc, hop, hw, readMayEnd, Flight.expired, due, timeoutEnds]

end

/-- A record read of a ring that is not empty ends with timeout in ACTIVE: the ring faults (R161, R162). -/
theorem ringReadEnds_timeout {s : State} {r : RingId} (ha : s.dev.state = .active) (run : (s.ring r).state = .running)
    (pending : (s.ring r).head ≠ (s.ring r).tail) :
    ringReadEnds r .timeout s = faultRing r .readTimeout s := by
  simp [ringReadEnds, State.takesIndices, ha, run, pending]

theorem faultRing_ring_state (r : RingId) (c : RingCause) (s : State) : ((faultRing r c s).ring r).state = .fault := by
  cases r <;> rfl

theorem faultRing_ringFaultEvent (r : RingId) (c : RingCause) (s : State) :
    (faultRing r c s).ringFaultEvent r = some c := by
  cases r <;> rfl

theorem SameButChoice.flight_eq {s t : State} (h : SameButChoice s t) : t.flight = s.flight := by
  obtain ⟨_, _, _, rfl⟩ := h.exists_eq
  rfl

theorem SameButChoice.slots_eq {s t : State} (h : SameButChoice s t) : t.slots = s.slots := by
  obtain ⟨_, _, _, rfl⟩ := h.exists_eq
  rfl

theorem SameButChoice.slot_eq {s t : State} (h : SameButChoice s t) (i : Fin 24) : t.slot i = s.slot i := by
  simp [State.slot, h.slots_eq]

theorem SameButChoice.ring_eq {s t : State} (h : SameButChoice s t) (r : RingId) : t.ring r = s.ring r := by
  obtain ⟨_, _, _, rfl⟩ := h.exists_eq
  simp

theorem SameButChoice.ringFaultEvent_eq {s t : State} (h : SameButChoice s t) (r : RingId) :
    t.ringFaultEvent r = s.ringFaultEvent r := by
  obtain ⟨_, _, _, rfl⟩ := h.exists_eq
  cases r <;> rfl

@[simp] theorem freeBus_flight (s : State) : (freeBus s).flight = none := rfl

@[simp] theorem freeBus_ring (s : State) (r : RingId) : (freeBus s).ring r = s.ring r := by cases r <;> rfl

/-- Settles O38: by requester; a record read's timeout is followed to its ring fault. -/
theorem timeoutsAndLateAnswers : Obligations.TimeoutsAndLateAnswers := by
  refine ⟨fun s => rfl, fun s f flying => ⟨exec_burstTimeout_early flying, fun due => ⟨fun r hr => ?_,
    fun w hw => exec_burstTimeout_poster flying due hw, fun op hop => exec_burstTimeout_orphan flying due hop,
    fun c op hc hop => exec_burstTimeout_channel flying due hc hop⟩⟩⟩
  refine ⟨exec_burstTimeout_ring flying due hr, ?_⟩
  rw [exec_burstTimeout_due flying due, hr]
  obtain ⟨t, e, ht⟩ := finish_next (ringReadEnds r .timeout (freeBus s))
  refine ⟨t, e, ht.flight_eq.trans (by simp), fun ha run pending => ?_⟩
  rw [ringReadEnds_timeout (by simpa using ha) (by simpa using run) (by simpa using pending)] at ht
  exact ⟨by rw [ht.ring_eq, faultRing_ring_state], by rw [ht.ringFaultEvent_eq, faultRing_ringFaultEvent]⟩

/-! ## Staged positions (R6) -/

/-- A staged byte within a slot list stands in one of its slots, at its own offset. -/
theorem stagedAddress_eq {slots : List (Fin 24)} {k : Nat} (hk : k < 2048 * slots.length) :
    ∃ h : k / 2048 < slots.length, stagedAddress slots k = slots[k / 2048].val * 2048 + k % 2048 := by
  have h : k / 2048 < slots.length := Nat.div_lt_of_lt_mul hk
  exact ⟨h, by simp [stagedAddress, Config.slotBytes, h]⟩

/-- Staged bytes of a list without repeated slots have different addresses. -/
theorem stagedAddress_inj {slots : List (Fin 24)} (hd : slots.Nodup) {j k : Nat} (hj : j < 2048 * slots.length)
    (hk : k < 2048 * slots.length) (h : stagedAddress slots j = stagedAddress slots k) : j = k := by
  obtain ⟨jslot, ej⟩ := stagedAddress_eq hj
  obtain ⟨kslot, ek⟩ := stagedAddress_eq hk
  have slot : slots[j / 2048] = slots[k / 2048] := Fin.ext (by omega)
  have place := (hd.getElem_inj_iff).1 slot
  omega

theorem stagedAddress_ne_of_notMem {slots : List (Fin 24)} {k : Nat} (hk : k < 2048 * slots.length) {i : Fin 24}
    (hi : i ∉ slots) {o : Nat} (ho : o < 2048) : stagedAddress slots k ≠ 2048 * i.val + o := by
  obtain ⟨h, e⟩ := stagedAddress_eq hk
  intro same
  exact hi ((Fin.ext (by omega) : slots[k / 2048] = i) ▸ List.getElem_mem h)

section
variable {m : Memory} (canonical : m.wf = true) {slots : List (Fin 24)} {start n : Nat} (f : Nat → Byte)
  (fits : start + n ≤ 2048 * slots.length)
include canonical fits

theorem stagedByte_stageBytes_inside (hd : slots.Nodup) {j : Nat} (hj : j < n) :
    stagedByte (stageBytes m slots start n f) slots (start + j) = f (start + j) := by
  refine foldl_write_read_one (fun j => stagedAddress slots (start + j)) (fun j => f (start + j)) j _ m canonical
    (List.mem_range.2 hj) fun i hi same => ?_
  have hi : i < n := List.mem_range.1 hi
  exact congrArg f (stagedAddress_inj hd (by omega) (by omega) same)

theorem stagedByte_stageBytes_outside (hd : slots.Nodup) {k : Nat} (hk : k < 2048 * slots.length)
    (hout : k < start ∨ start + n ≤ k) :
    stagedByte (stageBytes m slots start n f) slots k = stagedByte m slots k := by
  refine foldl_write_read_other (fun j => stagedAddress slots (start + j)) (fun j => f (start + j)) _ _ m canonical
    fun j hj same => ?_
  have hj : j < n := List.mem_range.1 hj
  have := stagedAddress_inj hd (by omega) hk same
  omega

theorem read_stageBytes_otherSlot {i : Fin 24} (hi : i ∉ slots) {o : Nat} (ho : o < 2048) :
    (stageBytes m slots start n f).read (2048 * i.val + o) = m.read (2048 * i.val + o) := by
  refine foldl_write_read_other (fun j => stagedAddress slots (start + j)) (fun j => f (start + j)) _ _ m canonical
    fun j hj => ?_
  have hj : j < n := List.mem_range.1 hj
  exact stagedAddress_ne_of_notMem (by omega) hi ho

end

/-! ## Slots and stalls (R65, R167) -/

theorem freeSlots_congr {s t : State} (h : t.slots = s.slots) : t.freeSlots = s.freeSlots := by
  simp [State.freeSlots, State.slot, h]

@[simp] theorem moveSlots_slot (x v : SlotState) (s : State) (i : Fin 24) :
    (moveSlots x v s).slot i = if s.slot i = x then v else s.slot i := by
  simp [moveSlots]

@[simp] theorem moveSlots_ring (x v : SlotState) (s : State) (r : RingId) : (moveSlots x v s).ring r = s.ring r := by
  simp [moveSlots]

/-- The ring after a freeing event that leaves `free` slots FREE: a stall whose need is met is over (R65). -/
def Ring.released (o : Ring) (free : Nat) : Ring :=
  match o.state with
  | .stalled need => if need ≤ free then { o with state := .running } else o
  | .running => o
  | .fault => o

theorem Ring.released_of_met {o : Ring} {n free : Nat} (h : o.state = .stalled n) (met : n ≤ free) :
    (o.released free).state = .running := by
  simp [Ring.released, h, met]

theorem Ring.released_of_unmet {o : Ring} {n free : Nat} (h : o.state = .stalled n) (unmet : free < n) :
    o.released free = o := by
  simp [Ring.released, h, Nat.not_le.2 unmet]

theorem releaseStall_ring (r : RingId) (s : State) :
    (releaseStall r s).ring r = (s.ring r).released s.freeSlots.length := by
  unfold releaseStall Ring.released
  split
  · split <;> simp_all
  · simp_all
  · simp_all

theorem releaseStall_ring_of_ne {r q : RingId} (h : r ≠ q) (s : State) : (releaseStall r s).ring q = s.ring q := by
  unfold releaseStall
  split
  · split
    · exact State.setRing_ring_of_ne _ _ h
    · rfl
  · rfl
  · rfl

/-- Each ring's stall is judged by the same FREE count. -/
theorem releaseStalls_ring (r : RingId) (s : State) :
    (releaseStalls s).ring r = (s.ring r).released s.freeSlots.length := by
  unfold releaseStalls
  cases r with
  | u => rw [releaseStall_ring_of_ne (by decide), releaseStall_ring]
  | b =>
    have free : (releaseStall .u s).freeSlots = s.freeSlots := freeSlots_congr (by simp)
    rw [releaseStall_ring, releaseStall_ring_of_ne (by decide), free]

/-! ## An orphan's burst ends (R76) -/

theorem exec_orphanBurstEnd {s : State} {f : Flight} {op : Operation} {a : ReadEnd} (flying : s.flight = some f)
    (hop : f.requester = .orphan op) (may : readMayEnd a f s = true) :
    exec (.orphanBurstEnd a) s = finish (orphanEnds op a (freeBus s)) := by
  simp [exec, execOrphanBurstEnd, flying, hop, may]

theorem setStaging_self (s : State) : s.setStaging s.staging = s := rfl

/-- Whatever the answer, an orphan's end is the freeing of the RECLAIM slots on the bytes it has staged. -/
theorem orphanEnds_eq (op : Operation) (a : ReadEnd) (s : State) :
    orphanEnds op a s = freeReclaimed (s.setStaging (orphanEnds op a s).staging) := by
  cases a with
  | ok data => cases hw : op.write <;> simp [orphanEnds, hw, stageBurst, setStaging_self]
  | busError => simp [orphanEnds, setStaging_self]
  | timeout => simp [orphanEnds, setStaging_self]

@[simp] theorem freeReclaimed_slot (s : State) (i : Fin 24) :
    (freeReclaimed s).slot i = if s.slot i = .reclaim then .free else s.slot i := by
  rw [← moveSlots_slot]
  simp [freeReclaimed, State.slot]

theorem freeReclaimed_ring (s : State) (r : RingId) :
    (freeReclaimed s).ring r = (s.ring r).released (freeReclaimed s).freeSlots.length := by
  have free : (freeReclaimed s).freeSlots = (moveSlots .reclaim .free s).freeSlots :=
    freeSlots_congr (by simp [freeReclaimed])
  rw [free, freeReclaimed, releaseStalls_ring, moveSlots_ring]

theorem orphanEnds_slot (op : Operation) (a : ReadEnd) (s : State) (i : Fin 24) :
    (orphanEnds op a s).slot i = if s.slot i = .reclaim then .free else s.slot i := by
  rw [orphanEnds_eq, freeReclaimed_slot, State.setStaging_slot]

theorem orphanEnds_ring (op : Operation) (a : ReadEnd) (s : State) (r : RingId) :
    (orphanEnds op a s).ring r = (s.ring r).released (orphanEnds op a s).freeSlots.length := by
  rw [orphanEnds_eq, freeReclaimed_ring]
  simp

theorem orphanEnds_staging_fetched {op : Operation} (hw : op.write = false) (data : List Byte) (s : State) :
    (orphanEnds op (.ok data) s).staging =
      stageBytes s.staging op.slots op.done data.length fun k => data.getD (k - op.done) 0 := by
  simp [orphanEnds, hw, stageBurst]

theorem orphanEnds_staging_same {op : Operation} {a : ReadEnd} (h : op.write = true ∨ a = .busError ∨ a = .timeout)
    (s : State) : (orphanEnds op a s).staging = s.staging := by
  cases a with
  | ok data => simp [orphanEnds, show op.write = true by simpa using h]
  | busError => simp [orphanEnds]
  | timeout => simp [orphanEnds]

/-- Settles O37: the slots, the staged bytes and the stalls, each by what the orphan's end does to it. -/
theorem orphanBurstsFreeTheirSlots : Obligations.OrphanBurstsFreeTheirSlots := by
  intro s f op a flying hop answer
  have may : readMayEnd a f s = true := by
    obtain rfl | ⟨rfl, due⟩ | ⟨data, rfl, len⟩ := answer
    · rfl
    · simpa [readMayEnd, Flight.expired] using due
    · simpa [readMayEnd] using len
  obtain ⟨t, e, ht⟩ := finish_next (orphanEnds op a (freeBus s))
  have slot (i : Fin 24) : t.slot i = if s.slot i = .reclaim then .free else s.slot i := by
    rw [ht.slot_eq, orphanEnds_slot]
    rfl
  have ring (r : RingId) : t.ring r = (s.ring r).released t.freeSlots.length := by
    rw [ht.ring_eq, orphanEnds_ring, freeBus_ring, freeSlots_congr ht.slots_eq]
  obtain ⟨_, _, _, rfl⟩ := ht.exists_eq
  refine ⟨_, (exec_orphanBurstEnd flying hop may).trans e, by simp, fun i hi => by rw [slot, if_pos hi],
    fun i hi => by rw [slot, if_neg hi], fun h => by simp [orphanEnds_staging_same h], ?staged,
    by simp, by simp, by simp, by simp, by simp, fun r n stalled met => ?_, fun r n stalled unmet => ?_⟩
  case staged =>
    rintro data rfl fetched - canonical hd fits
    simp only [State.setCpo_staging, orphanEnds_staging_fetched fetched]
    refine ⟨fun j hj => ?_, fun k hk hout => ?_, fun i hi o ho => ?_⟩
    · rw [stagedByte_stageBytes_inside (by simpa using canonical) _ fits hd hj, Nat.add_sub_cancel_left]
    · simpa using stagedByte_stageBytes_outside canonical _ fits hd hk hout
    · simpa using read_stageBytes_otherSlot canonical _ fits hi ho
  · rw [ring]
    exact Ring.released_of_met stalled met
  · rw [ring, Ring.released_of_unmet stalled unmet, stalled]

end Sys2Proof.Machine
end

section
/-! PROOFS. The pin reset (O9) and the laws of the device right after it (O3). -/

namespace Sys2Proof.Machine

/-- Settles O9: the part at its reset values but for what no reset changes, whose indexed fields are read at any
index. -/
theorem pinResetGivesEveryBlockItsResetValues : Obligations.PinResetGivesEveryBlockItsResetValues := by
  intro s
  have lines (n : LineId) : (pinReset s).cin n = { CountInput.reset with raw := (s.cin n).raw } := by
    simp [pinReset, State.cin]
  have ports (p : PanelId) : (pinReset s).port p = (s.port p).pinReset := by simp [pinReset, State.port]
  exact ⟨pinReset s, rfl, rfl, rfl, lines, rfl, rfl, rfl, rfl, rfl, rfl, rfl, rfl, rfl, rfl, ports, rfl, rfl, rfl, rfl,
    rfl, rfl, rfl, rfl⟩

@[simp] theorem reset_region (p : PanelId) : State.reset.region p = [] := by simp [State.region, State.reset]

theorem portReset_lawful : Port.reset.lawful := portPinReset_lawful Port.reset

/-- Settles O3: every tally is UNDEFINED, every port reset, every list and memory empty, and no channel or bus is in
use. -/
theorem resetIsLawful : Obligations.ResetIsLawful := by
  have memories : State.reset.memoriesCanonical := ⟨rfl, fun p => by rw [reset_region]; rfl⟩
  have lists : State.reset.listsFit := fun p => by simp
  have tallies : State.reset.talliesLawful := fun k => by simp [Tally.reset]
  have ports : State.reset.portsLawful := fun p => by simpa using portReset_lawful
  have timebase : State.reset.timebaseLawful := ⟨by decide, fun _ => ⟨rfl, rfl⟩⟩
  have bus : State.reset.busAgrees := ⟨fun c op h => by simp at h, fun f c h => by cases h⟩
  exact ⟨memories, lists, Nat.zero_le _, tallies, ports, timebase, bus, Nat.zero_le _⟩

end Sys2Proof.Machine
end

section
/-! PROOFS. A row's pulses, its transfer and the output levels (O42). -/

namespace Sys2Proof.Machine

/-! ## The pulses of a row (R98, R100, R101) -/

@[simp] theorem rowPulses_length (c : PanelConfig) (value : Nat → Bool) :
    (rowPulses c value).length = c.width / c.lanes := by
  simp [rowPulses, PanelConfig.laneLoad]

/-- Every pulse carries the four data lanes. -/
theorem length_of_mem_rowPulses {c : PanelConfig} {value : Nat → Bool} {x : List Bool} (h : x ∈ rowPulses c value) :
    x.length = 4 := by
  obtain ⟨i, -, rfl⟩ := List.mem_map.1 h
  simp

/-- Lane `l` of pulse `i` is high for a lit column of a lane in use. -/
theorem rowPulses_lane_iff {c : PanelConfig} {value : Nat → Bool} {i l : Nat} (hi : i < c.width / c.lanes)
    (hl : l < 4) :
    ((rowPulses c value).getD i []).getD l false = true ↔ l < c.lanes ∧ value (i * c.lanes + l) = true := by
  simp [rowPulses, PanelConfig.laneLoad, hi, hl]

theorem litByShade_iff {c : PanelConfig} {phi x y v : Nat} :
    litByShade c phi x y v = true ↔ (phi + c.spreadA * y + c.spreadB * x) % (2 ^ c.depth - 1) < v := decide_eq_true_iff

theorem litValue_iff {c : PanelConfig} {f : Frame} {phi : Nat} {m : Memory} {x y : Nat} :
    litValue c f phi m x y = true ↔ f.kind = .ordinary ∧
      (phi + c.spreadA * y + c.spreadB * x) % (2 ^ c.depth - 1) < m.shade x y ∧
      ∀ q ∈ f.invisible, q.covers x y = false := by
  simp [litValue, litByShade_iff, and_assoc]

/-! ## The transfer (R98, R103) -/

theorem Frame.rowsDone_lt_rows {f : Frame} : f.rowsDone < f.rows ↔ f.rowsDone ≤ f.last - f.first := Nat.lt_succ_iff

theorem phaseAfterRow_eq (c : PanelConfig) (f : Frame) (ph : Phase) :
    phaseAfterRow c f ph =
      if c.driveMode = .rows ∧ (∃ k, c.driveRows = some k ∧ (f.rowsDone + 1) % k = 0) ∧
          f.rowsDone < f.last - f.first then ph.flip
      else ph := by
  unfold phaseAfterRow
  cases hm : c.driveMode <;> cases hk : c.driveRows <;> simp [Frame.rows]

section
variable {s : State} {p : PanelId} {c : PanelConfig} {f : Frame} (hc : (s.port p).config = some c)
  (hf : (s.port p).frame = some f)
include hc hf

/-- Before the next row time has elapsed nothing is sent. -/
theorem exec_rowTransfer_early (early : f.elapsed < (c.blankRows + f.rowsDone + 1) * c.rowTime) :
    exec (.rowTransfer p) s = .next s := by
  simp [exec, execRowTransfer, rowDue, hc, hf, nextRowEnd, Nat.not_le.2 early]

theorem exec_rowTransfer_due (left : f.rowsDone < f.rows)
    (due : (c.blankRows + f.rowsDone + 1) * c.rowTime ≤ f.elapsed) :
    exec (.rowTransfer p) s = .next (s.setPort p (sendRow c f (s.region p) (s.port p))) := by
  simp [exec, execRowTransfer, rowDue, hc, hf, nextRowEnd, left, due]

/-! ## The levels (R99) -/

variable (runs : (s.port p).state.runsFrames = true) (m : Memory)
include runs

theorem levels_in_blank_interval (early : f.elapsed < c.blankRows * c.rowTime) :
    (s.port p).levels m = quietLevels true f.first f.startPhase := by
  simp [Port.levels, runs, hc, hf, frameLevels, early]

theorem levels_in_transfer (left : f.rowsDone < f.rows) (due : c.blankRows * c.rowTime ≤ f.elapsed) :
    (s.port p).levels m = transferLevels (rowOutput c f (s.port p).shadePhase m) (s.port p).phaseLine := by
  simp [Port.levels, runs, hc, hf, frameLevels, Nat.not_lt.2 due, left]

end

theorem levels_idle {o : Port} (h : o.state = .off ∨ o.state = .faulted) (m : Memory) :
    o.levels m = quietLevels true 0 .a := by
  have notRuns : ¬o.state.runsFrames = true := by
    obtain h | h := h <;> rw [h] <;> decide
  exact if_neg notRuns

/-- Settles O42: the pulses of the next row stand in both the transfer and the levels through it. -/
theorem rowTransfersSendLitPixels : Obligations.RowTransfersSendLitPixels := by
  refine ⟨fun p s c f hc hf => ⟨exec_rowTransfer_early hc hf, fun hleft => ?row,
    fun runs early => levels_in_blank_interval hc hf runs _ early⟩, fun p s h => levels_idle h _⟩
  have left := Frame.rowsDone_lt_rows.2 hleft
  refine ⟨rowPulses c fun x => litValue c f (s.port p).shadePhase (s.region p) x (f.first + f.rowsDone),
    rowPulses_length c _, fun i l hi hl => ?lanes, fun x => length_of_mem_rowPulses, fun runs due => ?levels,
    fun due => ⟨_, exec_rowTransfer_due hc hf left due, ?sent⟩⟩
  case lanes => exact (rowPulses_lane_iff hi hl).trans (and_congr_right' litValue_iff)
  case levels =>
    rw [levels_in_transfer hc hf runs _ left due]
    simp [transferLevels, rowOutput]
  case sent =>
    rw [sendRow, phaseAfterRow_eq]
    rfl

end Sys2Proof.Machine
end

section
/-! PROOFS. PANEL_HOLD and PANEL_WINDOW (O48): the owners' rulings, one for each check and effect. -/

namespace Sys2Proof.Machine

theorem State.setPort_self (s : State) (p : PanelId) : s.setPort p (s.port p) = s := by
  simp [State.setPort, State.port, State.setPorts]

@[simp] theorem afterTake_port (s : State) (r : RingId) (p : PanelId) : (afterTake s r).port p = s.port p := by
  simp [State.port]

theorem setPanelState_self {s : State} {p : PanelId} {v : PanelState} (h : (s.port p).state = v) :
    setPanelState p v s = s := by
  subst h
  exact s.setPort_self p

section
variable {t : Ticket} {record : List Byte} {s : State}

theorem panelHoldOwner_badPanel (h : 3 < byteAt record 16) :
    panelHoldOwner t record s = refuse .refusedParam 1 0 s := by
  simp [panelHoldOwner, idOf_big (n := 4) h]

theorem panelWindowOwner_badPanel (h : 3 < byteAt record 16) :
    panelWindowOwner t record s = refuse .refusedParam 1 0 s := by
  simp [panelWindowOwner, idOf_big (n := 4) h]

variable {p : PanelId} (hp : byteAt record 16 = p.val)
include hp

/-! ## PANEL_HOLD (R88) -/

theorem panelHoldOwner_badHold (h : 1 < byteAt record 17) :
    panelHoldOwner t record s = refuse .refusedParam 2 0 s := by
  simp [panelHoldOwner, idOf_val p hp, h]

theorem panelHoldOwner_badState (h : byteAt record 17 ≤ 1) (hr : (s.port p).state ≠ .running)
    (hf : (s.port p).state ≠ .frozen) : panelHoldOwner t record s = refuse .refusedState 0 0 s := by
  cases hs : (s.port p).state with
  | running => exact absurd hs hr
  | frozen => exact absurd hs hf
  | off | starting | draining | faulted => simp [panelHoldOwner, idOf_val p hp, hs, Nat.not_lt.2 h]

/-- SET freezes a RUNNING panel and RELEASE unfreezes a FROZEN one; a panel that is so already stays as it is. -/
theorem panelHoldOwner_accepts (h : byteAt record 17 ≤ 1)
    (hs : (s.port p).state = .running ∨ (s.port p).state = .frozen) :
    panelHoldOwner t record s =
      .answered .ok 0 0 (setPanelState p (if byteAt record 17 = 1 then .frozen else .running) s) := by
  have inRange := Nat.not_lt.2 h
  by_cases hset : byteAt record 17 = 1 <;> obtain hs | hs := hs
  case pos.inr | neg.inl =>
    simpa [panelHoldOwner, idOf_val p hp, hs, hset, inRange] using (setPanelState_self hs).symm
  all_goals simp [panelHoldOwner, idOf_val p hp, hs, hset, inRange]

/-! ## PANEL_WINDOW (R89) -/

theorem panelWindowOwner_unconfigured (hc : (s.port p).config = none) :
    panelWindowOwner t record s = refuse .refusedState 0 0 s := by
  simp [panelWindowOwner, idOf_val p hp, hc]

variable {c : PanelConfig} (hc : (s.port p).config = some c)
include hc

theorem panelWindowOwner_badFirst (h : c.height ≤ field16 record 18) :
    panelWindowOwner t record s = refuse .refusedParam 2 0 s := by
  simp [panelWindowOwner, idOf_val p hp, hc, h]

theorem panelWindowOwner_badLast (hfirst : field16 record 18 < c.height)
    (h : field16 record 20 < field16 record 18 ∨ c.height ≤ field16 record 20) :
    panelWindowOwner t record s = refuse .refusedParam 3 0 s := by
  simp [panelWindowOwner, idOf_val p hp, hc, Nat.not_le.2 hfirst, h]

theorem panelWindowOwner_accepts (hw : field16 record 18 ≤ field16 record 20) (hh : field16 record 20 < c.height) :
    panelWindowOwner t record s =
      .answered .ok 0 0 (s.setPort p (changeWindow (field16 record 18, field16 record 20) (s.port p))) := by
  simp [panelWindowOwner, idOf_val p hp, hc, Nat.not_le.2 (hw.trans_lt hh), Nat.not_lt.2 hw, Nat.not_le.2 hh]

end

theorem runsFrames_eq_false_iff {v : PanelState} : v.runsFrames = false ↔ v = .off ∨ v = .faulted := by
  cases v <;> simp [PanelState.runsFrames, PanelState.accepting]

/-- A window is pending while the panel runs frames, and otherwise written at once. -/
theorem changeWindow_eq {o : Port} {c : PanelConfig} (hc : o.config = some c) (first last : Nat) :
    changeWindow (first, last) o =
      if o.state = .off ∨ o.state = .faulted then
        { o with config := some { c with windowFirst := first, windowLast := last } }
      else { o with pendingWindow := some (first, last) } := by
  cases runs : o.state.runsFrames with
  | true => rw [changeWindow, if_pos runs, if_neg fun rest => by simp [runsFrames_eq_false_iff.2 rest] at runs]
  | false =>
    rw [changeWindow, if_neg (by simp [runs]), if_pos (runsFrames_eq_false_iff.1 runs), hc]
    rfl

/-- A port that an owner sets on answering is set in the state in which the record has been answered. -/
theorem dispatch_answered_port {k : Kind} {o : RecordOwner} {s : State} {r : RingId} {record : List Byte}
    (h : Held k s r record) {p : PanelId} {v : Port}
    (ho : o (nextTicket s r record) record (afterTake s r) = .answered .ok 0 0 ((afterTake s r).setPort p v)) :
    ∃ t, dispatch k o s = .next t ∧ SameButChoice ((afterAnswer s r record .ok 0 0).setPort p v) t :=
  dispatch_changed h ho (by simp) rfl

/-- Settles O48: the owners' ruling for each check, and the port that each accepted record leaves. -/
theorem panelHoldAndWindowRecords : Obligations.PanelHoldAndWindowRecords := by
  refine ⟨fun s r record held => ⟨fun big => dispatch_refused held (panelHoldOwner_badPanel big), fun p hp => ?hold⟩,
    fun s r record held => ⟨fun big => dispatch_refused held (panelWindowOwner_badPanel big), fun p hp => ?window⟩⟩
  case hold =>
    rw [← afterTake_port s r p]
    refine ⟨fun bad => dispatch_refused held (panelHoldOwner_badHold hp bad),
      fun h hr hf => dispatch_refused held (panelHoldOwner_badState hp h hr hf),
      fun h hs => dispatch_answered_port held (panelHoldOwner_accepts hp h hs)⟩
  case window =>
    rw [← afterTake_port s r p]
    refine ⟨fun hc => dispatch_refused held (panelWindowOwner_unconfigured hp hc), fun c hc =>
      ⟨fun bad => dispatch_refused held (panelWindowOwner_badFirst hp hc bad),
        fun first bad => dispatch_refused held (panelWindowOwner_badLast hp hc first bad), fun hw hh => ?_⟩⟩
    rw [← changeWindow_eq hc]
    exact dispatch_answered_port held (panelWindowOwner_accepts hp hc hw hh)

end Sys2Proof.Machine
end

section
/-! PROOFS. The flush of a pending list (R37, R38): the entries that stay, and the completions it requests. -/

namespace Sys2Proof.Machine

/-! ## Grants of channels (R69) -/

theorem Granted.refl (l : List Entry) : Granted l l := List.forall₂_same.2 fun _ _ => .inl rfl

theorem granted_of_eq {l m : List Entry} (h : m = l) : Granted l m := h ▸ .refl l

/-- An entry is granted a channel at most once. -/
theorem Granted.trans {l m n : List Entry} (h : Granted l m) (h' : Granted m n) : Granted l n := by
  unfold Granted at *
  induction h generalizing n with
  | nil => exact h'
  | cons he _ ih =>
    cases h' with
    | cons he' hs' =>
      refine .cons ?_ (ih hs')
      obtain rfl | ⟨hq, rfl⟩ := he
      · exact he'
      · obtain rfl | ⟨hq', -⟩ := he'
        · exact .inr ⟨hq, rfl⟩
        · cases hq'

/-- A grant commutes with a selection that does not look at whether an entry is QUEUED or FETCHING. -/
theorem Granted.filter {l m : List Entry} (h : Granted l m) {f : Entry → Bool}
    (hf : ∀ e : Entry, f { e with state := .fetching } = f e) : Granted (l.filter f) (m.filter f) := by
  refine List.rel_filter (fun e e' he => ?_) h
  obtain rfl | ⟨-, rfl⟩ := he
  · rfl
  · simp only [hf]

/-- A list without QUEUED entries has none to grant. -/
theorem Granted.eq_of_not_queued {l m : List Entry} (h : Granted l m) (hl : ∀ e ∈ l, e.state ≠ .queued) : m = l := by
  unfold Granted at h
  induction h with
  | nil => rfl
  | cons he _ ih =>
    obtain ⟨hq, htail⟩ := List.forall_mem_cons.1 hl
    obtain rfl | ⟨hq', -⟩ := he
    · rw [ih htail]
    · exact absurd hq' hq

theorem granted_markGranted (op : Operation) (s : State) (p : PanelId) :
    Granted (s.list p) ((markGranted op s).list p) := by
  unfold markGranted
  split
  · rename_i q r n _
    by_cases hq : q = p
    · subst hq
      rw [mapEntry, State.setList_list]
      refine List.forall₂_map_right_iff.2 (List.forall₂_same.2 fun e _ => ?_)
      split
      · split
        · exact .inr ⟨‹_›, rfl⟩
        · exact .inl rfl
      · exact .inl rfl
    · exact granted_of_eq (State.setList_list_of_ne _ _ hq)
  · exact .refl _

theorem granted_grantTo (s : State) (c : Fin 4) (p : PanelId) : Granted (s.list p) ((grantTo s c).list p) := by
  unfold grantTo
  split
  · rename_i op rest _ _
    exact granted_markGranted op ((s.setWaitQueue rest).setChannel c (.loaded op)) p
  · exact .refl _

theorem granted_grantAll (s : State) (p : PanelId) : Granted (s.list p) ((grantAll s).list p) :=
  List.foldlRecOn (motive := fun u : State => Granted (s.list p) (u.list p)) _ grantTo (.refl _)
    fun u h c _ => h.trans (granted_grantTo u c p)

theorem list_eq_of_lists {s t : State} (h : t.lists = s.lists) (p : PanelId) : t.list p = s.list p := by
  simp only [State.list, h]

/-- Grants made while the lists stand as in `s`. -/
theorem granted_grantAll_of_lists {s u : State} (h : u.lists = s.lists) (p : PanelId) :
    Granted (s.list p) ((grantAll u).list p) :=
  list_eq_of_lists h p ▸ granted_grantAll u p

@[simp] theorem freeOwned_list (o : Owner) (s : State) (p : PanelId) : (freeOwned o s).list p = s.list p :=
  list_eq_of_lists (by simp) p

/-- A withdrawal may free a channel for an entry that waits, and does nothing else to a list (R76). -/
theorem granted_withdraw (o : Owner) (s : State) (p : PanelId) : Granted (s.list p) ((withdraw o s).list p) := by
  unfold withdraw
  split
  · split
    · exact granted_grantAll_of_lists (by simp) p
    · rw [freeOwned_list]
      exact granted_grantAll_of_lists (by simp) p
  · rw [freeOwned_list]
    exact .refl _

/-! ## Completions while requests are kept (R176) -/

/-- In ACTIVE and PAUSED an answer joins the request queue and changes nothing else. -/
theorem answer_writing {s : State} (h : s.writing = true) (t : Ticket) (x : Status) (a b : Word) :
    answer t x a b s = withRequest s t x a b := by
  obtain h | h := writing_iff.1 h <;> simp [answer, request, deliver, h, enqueue, withRequest, State.setCpo]

theorem writing_congr {s t : State} (h : t.dev = s.dev) : t.writing = s.writing := by
  simp only [State.writing, h]

theorem answerAll_cpo {s : State} (h : s.writing = true) (ts : List Ticket) (x : Status) (a b : Word) :
    (answerAll ts x a b s).cpo = { s.cpo with queue := s.cpo.queue ++ completionsOf ts x a b } := by
  induction ts generalizing s with
  | nil => simp [answerAll, completionsOf]
  | cons t ts ih =>
    have next : (answer t x a b s).writing = true := (writing_congr (by simp)).trans h
    refine (ih next).trans ?_
    simp [answer_writing h, withRequest, completionsOf]

/-! ## The flush (R37, R38) -/

/-- Entry `y` is still in the list when entry `e` has been flushed. -/
def outlives (e y : Entry) : Bool := e.state == .writing || !y.isOf e.ticket.ring e.ticket.take

theorem leave_list (p : PanelId) (e : Entry) (x : Status) (a b : Word) (s : State) :
    (leave p e x a b s).list p = (s.list p).filter fun y => !y.isOf e.ticket.ring e.ticket.take := by
  rw [leave, list_eq_of_lists (s := removeEntry p e s) (by simp), removeEntry, State.setList_list]

theorem outlives_of_writing {e : Entry} (h : e.state = .writing) : outlives e = fun _ => true := by
  simp [funext_iff, outlives, h]

theorem outlives_of_not_writing {e : Entry} (h : e.state ≠ .writing) :
    outlives e = fun y => !y.isOf e.ticket.ring e.ticket.take := by
  simp [funext_iff, outlives, h]

/-- Of one entry's flush its list sees the entry gone, unless it is WRITING, and grants of the freed channel. -/
theorem granted_flushEntry (p : PanelId) (x : Status) (n : Word) (s : State) (e : Entry) :
    Granted ((s.list p).filter (outlives e)) ((flushEntry p x n s e).list p) := by
  cases he : e.state with
  | writing => simpa [flushEntry, he, outlives_of_writing he] using Granted.refl (s.list p)
  | committed =>
    rw [outlives_of_not_writing (by simp [he])]
    simpa [flushEntry, he, leave_list] using Granted.refl _
  | queued | fetching | ready =>
    rw [outlives_of_not_writing (by simp [he])]
    simpa only [flushEntry, he, leave_list] using (granted_withdraw (e.owner p) s p).filter fun _ => rfl

theorem granted_flush (p : PanelId) (x : Status) (n : Word) (l : List Entry) (s : State) :
    Granted ((s.list p).filter fun y => l.all (outlives · y)) ((l.foldl (flushEntry p x n) s).list p) := by
  induction l generalizing s with
  | nil => simpa using Granted.refl (s.list p)
  | cons e l ih =>
    refine Granted.trans ?_ (ih (flushEntry p x n s e))
    rw [show ((s.list p).filter fun y => (e :: l).all (outlives · y)) =
      ((s.list p).filter (outlives e)).filter fun y => l.all (outlives · y) by simp [Bool.and_comm]]
    exact (granted_flushEntry p x n s e).filter fun _ => rfl

/-- Of a list whose entries come from different records the flush leaves the WRITING captures, as they stand. -/
theorem flushList_list {p : PanelId} {s : State} (h : recordsDistinct (s.list p)) (x : Status) (n : Word) :
    (flushList p x n s).list p = (s.list p).filter fun e => e.state = .writing := by
  have stays : ∀ y ∈ s.list p, (s.list p).all (outlives · y) = decide (y.state = .writing) := by
    intro y hy
    rw [Bool.eq_iff_iff, List.all_eq_true, decide_eq_true_iff]
    constructor
    · intro all
      simpa [outlives, Entry.isOf] using all y hy
    · intro hw e he
      by_cases same : y.isOf e.ticket.ring e.ticket.take = true
      · have : e = y := List.inj_on_of_nodup_map h he hy (by simp_all [Entry.isOf])
        simp [outlives, this, hw]
      · simp [outlives, same]
  have flushed := granted_flush p x n (s.list p) s
  rw [List.filter_congr stays] at flushed
  exact flushed.eq_of_not_queued fun e he => by simp_all

theorem leave_cpo {s : State} (h : s.writing = true) (p : PanelId) (e : Entry) (x : Status) (a b : Word) :
    (leave p e x a b s).cpo = { s.cpo with
      queue := s.cpo.queue ++ [{ ticket := e.ticket, status := x, detailA := a, detailB := b }] } := by
  have kept : (removeEntry p e s).writing = true := (writing_congr (by simp)).trans h
  simp [leave, answer_writing kept, withRequest]

theorem flushEntry_cpo {s : State} (h : s.writing = true) (p : PanelId) (x : Status) (n : Word) (e : Entry) :
    (flushEntry p x n s e).cpo = { s.cpo with queue := s.cpo.queue ++ (flushCompletion x n e).toList } := by
  have withdrawn : (withdraw (e.owner p) s).writing = true := (writing_congr (by simp)).trans h
  cases he : e.state with
  | writing => simp [flushEntry, flushCompletion, he]
  | committed => simp [flushEntry, flushCompletion, he, leave_cpo h]
  | queued | fetching | ready => simp [flushEntry, flushCompletion, he, leave_cpo withdrawn]

/-- The flush requests the completions of its entries in list order. -/
theorem flush_cpo {s : State} (h : s.writing = true) (p : PanelId) (x : Status) (n : Word) (l : List Entry) :
    (l.foldl (flushEntry p x n) s).cpo =
      { s.cpo with queue := s.cpo.queue ++ l.filterMap (flushCompletion x n) } := by
  induction l generalizing s with
  | nil => simp
  | cons e l ih =>
    have next : (flushEntry p x n s e).writing = true := (writing_congr (by simp)).trans h
    rw [List.foldl_cons, ih next, flushEntry_cpo h, List.filterMap_cons]
    cases flushCompletion x n e <;> simp

theorem flushList_cpo {s : State} (h : s.writing = true) (p : PanelId) (x : Status) (n : Word) :
    (flushList p x n s).cpo = { s.cpo with queue := s.cpo.queue ++ (s.list p).filterMap (flushCompletion x n) } :=
  flush_cpo h p x n _

end Sys2Proof.Machine
end

section
/-! PROOFS. PANEL_START (O46): the boundary of a frame that paints nothing, the fault taken at a port, and the owner's
rulings. -/

namespace Sys2Proof.Machine

/-! ## What the take and CPo's choice leave alone -/

@[simp] theorem afterTake_list (s : State) (r : RingId) (p : PanelId) : (afterTake s r).list p = s.list p :=
  list_eq_of_lists (by simp) p

@[simp] theorem afterTake_queue (s : State) (r : RingId) : (afterTake s r).cpo.queue = s.cpo.queue := by
  cases r <;> rfl

@[simp] theorem afterTake_panelFaultEvent (s : State) (r : RingId) (p : PanelId) :
    (afterTake s r).panelFaultEvent p = s.panelFaultEvent p := by
  cases r <;> rfl

theorem afterTake_writing {s : State} {r : RingId} (h : chosenRing s = some r) : (afterTake s r).writing = true :=
  (writing_congr (by simp)).trans (writing_iff.2 (.inl (active_of_chosen h)))

section
variable {s t : State} (h : SameButChoice s t)
include h

theorem SameButChoice.port_eq (p : PanelId) : t.port p = s.port p := by
  obtain ⟨_, _, _, rfl⟩ := h.exists_eq
  rfl

theorem SameButChoice.list_eq (p : PanelId) : t.list p = s.list p := by
  obtain ⟨_, _, _, rfl⟩ := h.exists_eq
  rfl

theorem SameButChoice.dev_eq : t.dev = s.dev := by
  obtain ⟨_, _, _, rfl⟩ := h.exists_eq
  rfl

theorem SameButChoice.queue_eq : t.cpo.queue = s.cpo.queue := by
  obtain ⟨_, _, _, rfl⟩ := h.exists_eq
  rfl

theorem SameButChoice.panelFaultEvent_eq (p : PanelId) : t.panelFaultEvent p = s.panelFaultEvent p := by
  obtain ⟨_, _, _, rfl⟩ := h.exists_eq
  rfl

end

theorem State.setPort_setPort (s : State) (p : PanelId) (a b : Port) : (s.setPort p a).setPort p b = s.setPort p b := by
  simp [State.setPort, State.setPorts]

/-! ## The boundary of a frame that paints nothing (R43, R97) -/

/-- The next frame's numbers depend on the configuration through its depth alone (R44, R100). -/
theorem advanceFrame_congr {c c' : PanelConfig} (h : c.depth = c'.depth) (o : Port) :
    advanceFrame c o = advanceFrame c' o := by
  simp [advanceFrame, PanelConfig.highestShade, h]

theorem config_of_windowApplied {o : Port} {c : PanelConfig} (h : windowApplied o = some c) :
    ∃ c0, o.config = some c0 ∧ c0.depth = c.depth := by
  unfold windowApplied at h
  split at h
  · exact ⟨c, h, rfl⟩
  · obtain ⟨c0, hc0, rfl⟩ := Option.map_eq_some_iff.1 h
    exact ⟨c0, hc0, rfl⟩

theorem config_isSome_of_windowApplied {o : Port} {c : PanelConfig} (h : windowApplied o = some c) :
    o.config.isSome := by
  obtain ⟨c0, hc0, -⟩ := config_of_windowApplied h
  rw [hc0]
  rfl

theorem applyWindow_eq :
    ∀ o : Port, applyWindow o = { o with config := windowApplied o, pendingWindow := none }
  | { pendingWindow := none, .. } => rfl
  | { pendingWindow := some _, .. } => rfl

theorem windowApplied_congr {o o' : Port} (hc : o'.config = o.config) (hw : o'.pendingWindow = o.pendingWindow) :
    windowApplied o' = windowApplied o := by
  simp only [windowApplied, hc, hw]

@[simp] theorem advanceFrame_windowApplied (c : PanelConfig) (o : Port) :
    windowApplied (advanceFrame c o) = windowApplied o := by
  unfold advanceFrame
  split <;> exact windowApplied_congr rfl rfl

theorem startPhase_eq (c : PanelConfig) (balance : Bool) :
    startPhase c balance = if c.driveMode = .none ∨ balance = false then .a else .b := by
  by_cases h : c.driveMode = .none <;> cases balance <;> simp [startPhase, h]

/-- A frame begun on a port whose numbers and window are the frame's. -/
theorem beginFrame_eq (c : PanelConfig) (areas : List Rect) (o : Port) :
    beginFrame c areas { advanceFrame c o with config := some c, pendingWindow := none } =
      portAtBoundary o c (frameKindOf o.state) (advanceFrame c o).frameNumber (advanceFrame c o).shadePhase areas := by
  unfold advanceFrame
  split <;> simp [beginFrame, portAtBoundary, startPhase_eq, toggled]

/-- The boundary of a panel that is not RUNNING begins the frame at its port and does nothing else. -/
theorem boundary_of_not_running {p : PanelId} {s : State} {c : PanelConfig} (hc : windowApplied (s.port p) = some c)
    (h : (s.port p).state ≠ .running) :
    boundary p s = s.setPort p (portAtBoundary (s.port p) c (frameKindOf (s.port p).state)
      (advanceFrame c (s.port p)).frameNumber (advanceFrame c (s.port p)).shadePhase []) := by
  obtain ⟨c0, hc0, depth⟩ := config_of_windowApplied hc
  simp only [boundary, hc0, decidedAreas, applyWindow_state, advanceFrame_state, if_neg h, State.setPort_port,
    State.setPort_setPort, advanceFrame_congr depth]
  rw [applyWindow_eq, advanceFrame_windowApplied, hc, Option.getD_some, beginFrame_eq]

/-- The lead-in frame's boundary (R82). -/
theorem boundary_starting {p : PanelId} {s : State} {c : PanelConfig} (hc : windowApplied (s.port p) = some c)
    (h : (s.port p).state = .starting) :
    boundary p s = s.setPort p (portAtBoundary (s.port p) c .leadIn 0 0 []) := by
  rw [boundary_of_not_running hc (by simp [h])]
  simp [advanceFrame, h, frameKindOf]

/-! ## The fault at a port (R90, R91) -/

theorem handPanelFault_panelFaultEvent {s : State} (h : s.dev.state ≠ .resetting) (p : PanelId) (n : Word) :
    (handPanelFault p n s).panelFaultEvent p = some ((s.panelFaultEvent p).getD n) := by
  unfold handPanelFault
  rw [if_neg h]
  split
  · simp [*]
  · rename_i noEvent
    rw [noEvent]
    simp [State.panelFaultEvent]

@[simp] theorem handPanelFault_queue (p : PanelId) (n : Word) (s : State) :
    (handPanelFault p n s).cpo.queue = s.cpo.queue := by
  unfold handPanelFault
  repeat' split
  all_goals rfl

/-- The port that a fault leaves. -/
def portFaulted (o : Port) : Port :=
  { o with
    state := .faulted, frame := none, phaseLine := .a, config := windowApplied o, pendingWindow := none
    waitingStarts := [], waitingStops := [] }

/-- A fault outside DRAINING up to its event: the port faults, the list is flushed, and the waiting records are
answered, starts first. -/
def faultFlushed (p : PanelId) (s : State) : State :=
  let n := (s.port p).frameNumber
  answerAll (s.port p).waitingStops .panelFault n 0
    (answerAll (s.port p).waitingStarts .panelFault n 0
      (flushList p .panelFault n (s.setPort p (portFaulted (s.port p)))))

theorem takeFault_eq {p : PanelId} {s : State} (h : (s.port p).state ≠ .draining) :
    takeFault p s = handPanelFault p (s.port p).frameNumber (faultFlushed p s) := by
  have port : ({ applyWindow (s.port p).idle with state := .faulted, waitingStarts := [], waitingStops := [] } : Port) =
      portFaulted (s.port p) := by
    rw [applyWindow_eq]
    rfl
  simp only [takeFault, if_neg h, port, faultFlushed]

theorem faultFlushed_cpo {p : PanelId} {s : State} (writing : s.writing = true) :
    (faultFlushed p s).cpo = { s.cpo with
      queue := s.cpo.queue ++ (s.list p).filterMap (flushCompletion .panelFault (s.port p).frameNumber) ++
        completionsOf (s.port p).waitingStarts .panelFault (s.port p).frameNumber 0 ++
        completionsOf (s.port p).waitingStops .panelFault (s.port p).frameNumber 0 } := by
  have kept {u : State} (e : u.dev = s.dev) : u.writing = true := (writing_congr e).trans writing
  rw [faultFlushed, answerAll_cpo (kept (by simp)), answerAll_cpo (kept (by simp)), flushList_cpo (kept (by simp))]
  simp

section
variable {p : PanelId} {s : State} (h : (s.port p).state ≠ .draining)
include h

theorem takeFault_ports : (takeFault p s).ports = s.ports.set p (portFaulted (s.port p)) := by
  simp [takeFault_eq h, faultFlushed]

theorem takeFault_port : (takeFault p s).port p = portFaulted (s.port p) := by
  simp [State.port, takeFault_ports h]

theorem takeFault_port_of_ne {q : PanelId} (hq : q ≠ p) : (takeFault p s).port q = s.port q := by
  simp [State.port, takeFault_ports h, Fin.val_ne_of_ne hq.symm]

theorem takeFault_list (distinct : recordsDistinct (s.list p)) :
    (takeFault p s).list p = (s.list p).filter fun e => e.state = .writing := by
  have faulted : recordsDistinct ((s.setPort p (portFaulted (s.port p))).list p) := distinct
  exact (list_eq_of_lists (by simp [takeFault_eq h, faultFlushed]) p).trans
    (flushList_list faulted .panelFault (s.port p).frameNumber)

variable (writing : s.writing = true)
include writing

theorem takeFault_queue :
    (takeFault p s).cpo.queue = s.cpo.queue ++
      (s.list p).filterMap (flushCompletion .panelFault (s.port p).frameNumber) ++
      completionsOf (s.port p).waitingStarts .panelFault (s.port p).frameNumber 0 ++
      completionsOf (s.port p).waitingStops .panelFault (s.port p).frameNumber 0 := by
  rw [takeFault_eq h, handPanelFault_queue, faultFlushed_cpo writing]

theorem takeFault_panelFaultEvent :
    (takeFault p s).panelFaultEvent p = some ((s.panelFaultEvent p).getD (s.port p).frameNumber) := by
  have notResetting : (faultFlushed p s).dev.state ≠ .resetting := by
    obtain hd | hd := writing_iff.1 writing <;> simp [faultFlushed, hd]
  rw [takeFault_eq h, handPanelFault_panelFaultEvent notResetting, State.panelFaultEvent, faultFlushed_cpo writing]
  rfl

end

/-! ## The owner's rulings (R81, R82) -/

section
variable {t : Ticket} {record : List Byte} {s : State}

theorem panelStartOwner_badPanel (h : 3 < byteAt record 16) :
    panelStartOwner t record s = refuse .refusedParam 1 0 s := by
  simp [panelStartOwner, idOf_big (n := 4) h]

variable {p : PanelId} (hp : byteAt record 16 = p.val)
include hp

theorem panelStartOwner_refused (h : (s.port p).state = .off ∧ (s.port p).config = none ∨ (s.port p).state = .draining ∨
    (s.port p).state = .faulted ∧ (s.port p).faultLine = true) :
    panelStartOwner t record s = refuse .refusedState 0 0 s := by
  obtain ⟨hs, hc⟩ | hs | ⟨hs, hl⟩ := h
  · simp [panelStartOwner, idOf_val p hp, hs, hc]
  · simp [panelStartOwner, idOf_val p hp, hs]
  · simp [panelStartOwner, idOf_val p hp, hs, hl]

theorem panelStartOwner_started (h : (s.port p).state = .running ∨ (s.port p).state = .frozen) :
    panelStartOwner t record s = .answered .ok 0 0 s := by
  obtain hs | hs := h <;> simp [panelStartOwner, idOf_val p hp, hs]

theorem panelStartOwner_joins (h : (s.port p).state = .starting) :
    panelStartOwner t record s = .accepted (joinStarts p t s) := by
  simp [panelStartOwner, idOf_val p hp, h]

theorem panelStartOwner_starts (h : (s.port p).state = .off ∧ (s.port p).config.isSome ∨
    (s.port p).state = .faulted ∧ (s.port p).faultLine = false) :
    panelStartOwner t record s = .accepted (enterStarting p (joinStarts p t s)) := by
  obtain ⟨hs, hc⟩ | ⟨hs, hl⟩ := h
  · simp [panelStartOwner, idOf_val p hp, hs, hc]
  · simp [panelStartOwner, idOf_val p hp, hs, hl]

end

/-! ## The entry to STARTING (R82) -/

/-- The port that enters STARTING for the record `t`. -/
def portStarting (o : Port) (t : Ticket) : Port :=
  { o with state := .starting, frameNumber := 0, shadePhase := 0, waitingStarts := o.waitingStarts ++ [t] }

theorem enterStarting_joinStarts (p : PanelId) (t : Ticket) (s : State) :
    enterStarting p (joinStarts p t s) =
      if (s.port p).faultLine then takeFault p (s.setPort p (portStarting (s.port p) t))
      else boundary p (s.setPort p (portStarting (s.port p) t)) := by
  simp [enterStarting, joinStarts, State.setPort_setPort, portStarting]

/-- With the line released the lead-in frame begins at once. -/
theorem enterStarting_released {p : PanelId} {s : State} {c : PanelConfig} (hc : windowApplied (s.port p) = some c)
    (released : (s.port p).faultLine = false) (t : Ticket) :
    enterStarting p (joinStarts p t s) =
      s.setPort p (portAtBoundary (portStarting (s.port p) t) c .leadIn 0 0 []) := by
  have window : windowApplied (portStarting (s.port p) t) = some c := (windowApplied_congr rfl rfl).trans hc
  rw [enterStarting_joinStarts, released, if_neg Bool.false_ne_true,
    boundary_starting (by simpa using window) (by simp [portStarting])]
  simp [State.setPort_setPort]

/-- The fault that the asserted line causes before that boundary. -/
def faultAtStart (p : PanelId) (t : Ticket) (s : State) : State :=
  takeFault p (s.setPort p (portStarting (s.port p) t))

theorem enterStarting_asserted {p : PanelId} {s : State} (asserted : (s.port p).faultLine = true) (t : Ticket) :
    enterStarting p (joinStarts p t s) = faultAtStart p t s := by
  rw [enterStarting_joinStarts, if_pos asserted, faultAtStart]

section
variable (p : PanelId) (t : Ticket) (s : State)

theorem starting_not_draining : ((s.setPort p (portStarting (s.port p) t)).port p).state ≠ .draining := by
  simp [portStarting]

theorem faultAtStart_frame :
    (faultAtStart p t s).regions = s.regions ∧ (faultAtStart p t s).dev = s.dev := by
  simp [faultAtStart]

theorem faultAtStart_port :
    (faultAtStart p t s).port p = { s.port p with
      state := .faulted, frameNumber := 0, shadePhase := 0, frame := none, phaseLine := .a
      config := windowApplied (s.port p), pendingWindow := none, waitingStarts := [], waitingStops := [] } := by
  rw [faultAtStart, takeFault_port (starting_not_draining p t s), State.setPort_port]
  rfl

theorem faultAtStart_port_of_ne {q : PanelId} (hq : q ≠ p) : (faultAtStart p t s).port q = s.port q := by
  rw [faultAtStart, takeFault_port_of_ne (starting_not_draining p t s) hq, State.setPort_port_of_ne _ _ hq.symm]

theorem faultAtStart_list (distinct : recordsDistinct (s.list p)) :
    (faultAtStart p t s).list p = (s.list p).filter fun e => e.state = .writing :=
  takeFault_list (starting_not_draining p t s) distinct

theorem faultAtStart_queue (writing : s.writing = true) :
    (faultAtStart p t s).cpo.queue = s.cpo.queue ++ (s.list p).filterMap (flushCompletion .panelFault 0) ++
      completionsOf ((s.port p).waitingStarts ++ [t]) .panelFault 0 0 ++
      completionsOf (s.port p).waitingStops .panelFault 0 0 := by
  rw [faultAtStart, takeFault_queue (starting_not_draining p t s) writing]
  simp [portStarting]

theorem faultAtStart_panelFaultEvent (writing : s.writing = true) :
    (faultAtStart p t s).panelFaultEvent p = some ((s.panelFaultEvent p).getD 0) := by
  rw [faultAtStart, takeFault_panelFaultEvent (starting_not_draining p t s) writing]
  simp [portStarting, State.panelFaultEvent]

end

/-- Settles O46: the owner's ruling for each state of the panel and level of the line, and what the entry to STARTING
does at each level. -/
theorem panelStartRecords : Obligations.PanelStartRecords := by
  intro s r record held
  refine ⟨fun big => dispatch_refused held (panelStartOwner_badPanel big), fun p hp => ?_⟩
  rw [← afterTake_port s r p]
  refine ⟨fun h => dispatch_refused held (panelStartOwner_refused hp h),
    fun h => dispatch_answered held (by simp) (panelStartOwner_started hp h),
    fun h => dispatch_accepted held (panelStartOwner_joins hp h), fun c hc => ?begins⟩
  have configured := config_isSome_of_windowApplied hc
  refine ⟨fun h released => ?lead, fun h asserted distinct => ?fault⟩
  case lead =>
    refine dispatch_accepted held ?_
    rw [panelStartOwner_starts hp (h.imp (⟨·, configured⟩) (⟨·, released⟩)), enterStarting_released hc released]
    rfl
  case fault =>
    have starts := panelStartOwner_starts (t := nextTicket s r record) hp (.inl ⟨h, configured⟩)
    rw [enterStarting_asserted asserted] at starts
    obtain ⟨t, e, ht⟩ := dispatch_accepted held starts
    refine ⟨t, e, ?port, ?list, ?queue, ?event, fun q hq => ?others, ?regions, ?dev⟩
    case port => rw [ht.port_eq, faultAtStart_port, hc]
    case list => rw [ht.list_eq, faultAtStart_list p _ _ (by simpa using distinct), afterTake_list]
    case queue =>
      rw [ht.queue_eq, faultAtStart_queue p _ _ (afterTake_writing held.chosen), afterTake_queue, afterTake_list]
    case event =>
      rw [ht.panelFaultEvent_eq, faultAtStart_panelFaultEvent p _ _ (afterTake_writing held.chosen),
        afterTake_panelFaultEvent]
    case others => rw [ht.port_eq, faultAtStart_port_of_ne p _ _ hq, afterTake_port]
    case regions => simp [ht.regions_eq, faultAtStart_frame]
    case dev => simp [ht.dev_eq, faultAtStart_frame]

end Sys2Proof.Machine
end

section
/-! PROOFS. The end of a glyph load (O35): what either end of a load leaves, and the burst that ends it. -/

namespace Sys2Proof.Machine

theorem SameButChoice.glyph_eq {s t : State} (h : SameButChoice s t) (g : Fin 4) : t.glyph g = s.glyph g := by
  obtain ⟨_, _, _, rfl⟩ := h.exists_eq
  rfl

theorem SameButChoice.staging_eq {s t : State} (h : SameButChoice s t) : t.staging = s.staging := by
  obtain ⟨_, _, _, rfl⟩ := h.exists_eq
  rfl

theorem glyph_eq_of_glyphs {s t : State} (h : t.glyphs = s.glyphs) (g : Fin 4) : t.glyph g = s.glyph g := by
  simp only [State.glyph, h]

theorem slot_eq_of_slots {s t : State} (h : t.slots = s.slots) (i : Fin 24) : t.slot i = s.slot i := by
  simp only [State.slot, h]

@[simp] theorem freeOwned_slot (o : Owner) (s : State) (i : Fin 24) :
    (freeOwned o s).slot i = if s.slot i = .owned o then .free else s.slot i := by
  rw [← moveSlots_slot]
  exact slot_eq_of_slots (by simp [freeOwned]) i

/-! ## The load is over (R134) -/

/-- A load of set `g` is over: the set is left as `v`, its slots are freed, and the load's record is answered. -/
def loadOver (g : Fin 4) (v : GlyphSet) (k : Ticket) (x : Status) (a : Word) (s : State) : State :=
  answer k x a 0 (freeOwned (.glyph g) (s.setGlyph g v))

section
variable {s : State} {g : Fin 4} {w h sep : Nat} {k : Ticket} {l : List (Fin 24)}
  (loading : s.glyph g = .loading w h sep k l)
include loading

theorem loadEnds_of_loading (op : Operation) :
    loadEnds g op s = loadOver g (.ready w h sep (stagedData op s)) k .ok (word op.total) s := by
  simp only [loadEnds, loading, loadOver]

theorem loadFails_of_loading (x : Status) (op : Operation) :
    loadFails g x op s = loadOver g .empty k x (word (op.done / glyphBytes w h)) s := by
  simp only [loadFails, loading, loadOver]

end

section
variable (g : Fin 4) (v : GlyphSet) (k : Ticket) (x : Status) (a : Word) (s : State)

theorem loadOver_staging : (loadOver g v k x a s).staging = s.staging := by
  simp [loadOver]

theorem loadOver_glyph : (loadOver g v k x a s).glyph g = v :=
  (glyph_eq_of_glyphs (s := s.setGlyph g v) (by simp [loadOver]) g).trans (by simp)

theorem loadOver_glyph_of_ne {g' : Fin 4} (hg : g' ≠ g) : (loadOver g v k x a s).glyph g' = s.glyph g' :=
  (glyph_eq_of_glyphs (s := s.setGlyph g v) (by simp [loadOver]) g').trans (s.setGlyph_glyph_of_ne v hg.symm)

theorem loadOver_slot {i : Fin 24} (hi : s.slot i = .owned (.glyph g)) : (loadOver g v k x a s).slot i = .free :=
  (slot_eq_of_slots (s := freeOwned (.glyph g) (s.setGlyph g v)) (by simp [loadOver]) i).trans (by simp [hi])

theorem loadOver_queue (writing : s.writing = true) :
    (loadOver g v k x a s).cpo.queue =
      s.cpo.queue ++ [{ ticket := k, status := x, detailA := a, detailB := 0 }] := by
  rw [loadOver, answer_writing ((writing_congr (by simp)).trans writing)]
  simp [withRequest]

end

/-- A load that is over while requests are kept, in a state that has come from `s` without touching sets, slots, the
queue or the device. -/
theorem finish_loadOver {s u : State} (writing : s.writing = true) (dev : u.dev = s.dev) (glyphs : u.glyphs = s.glyphs)
    (slots : u.slots = s.slots) (cpo : u.cpo = s.cpo) (g : Fin 4) (v : GlyphSet) (k : Ticket) (x : Status) (a : Word) :
    ∃ t, finish (loadOver g v k x a u) = .next t ∧ t.staging = u.staging ∧ t.glyph g = v ∧
      t.cpo.queue = s.cpo.queue ++ [{ ticket := k, status := x, detailA := a, detailB := 0 }] ∧
      (∀ i, s.slot i = .owned (.glyph g) → t.slot i = .free) ∧ ∀ g', g' ≠ g → t.glyph g' = s.glyph g' := by
  obtain ⟨t, e, ht⟩ := finish_next (loadOver g v k x a u)
  refine ⟨t, e, ht.staging_eq.trans (loadOver_staging ..), (ht.glyph_eq g).trans (loadOver_glyph ..), ?queue,
    fun i hi => ?slot, fun g' hg => ?others⟩
  case queue => rw [ht.queue_eq, loadOver_queue _ _ _ _ _ _ ((writing_congr dev).trans writing), cpo]
  case slot => rw [ht.slot_eq, loadOver_slot _ _ _ _ _ _ ((slot_eq_of_slots slots i).trans hi)]
  case others => rw [ht.glyph_eq, loadOver_glyph_of_ne _ _ _ _ _ _ hg, glyph_eq_of_glyphs glyphs]

/-! ## The burst that ends it (R70, R74) -/

theorem exec_fetchBurstEnd {s : State} {f : Flight} {c : Fin 4} {op : Operation} {a : ReadEnd}
    (flying : s.flight = some f) (hc : f.requester = .channel c) (hop : s.channel c = .inFlight op)
    (fetch : op.write = false) (may : readMayEnd a f s = true) :
    exec (.fetchBurstEnd a) s = finish (fetchEnds c op a (freeBus s)) := by
  have burst : s.dataBurst = some (f, c, op) := by simp [State.dataBurst, flying, hc, hop]
  simp [exec, execFetchBurstEnd, burst, fetch, may]

/-- The last burst of a glyph fetch ends OK: the load ends in the state with the burst staged and the channel free. -/
theorem fetchEnds_glyph_last {op : Operation} {g : Fin 4} (owner : op.owner = .glyph g)
    (last : op.total ≤ op.done + op.burstLength) (c : Fin 4) (data : List Byte) (s : State) :
    fetchEnds c op (.ok data) s = loadEnds g op (freeChannel c (stageBurst op data s)) := by
  simp [fetchEnds, Operation.isLast, last, fetchDone, owner]

/-- Settles O35: both ends of the last burst are a load that is over, after the channel has been freed. -/
theorem glyphLoadsEnd : Obligations.GlyphLoadsEnd := by
  intro s f c op g w h sep k l flying hc hop owner fetch read loading active
  have writing : s.writing = true := writing_iff.2 active
  refine ⟨fun data len last => ?ends, fun a x how => ?fails⟩
  case ends =>
    have loading' : (freeChannel c (stageBurst op data (freeBus s))).glyph g = .loading w h sep k l :=
      (glyph_eq_of_glyphs (by simp) g).trans loading
    rw [exec_fetchBurstEnd flying hc hop fetch (by simp [readMayEnd, read, len]), fetchEnds_glyph_last owner last,
      loadEnds_of_loading loading']
    obtain ⟨t, e, staging, ready, rest⟩ := finish_loadOver (u := freeChannel c (stageBurst op data (freeBus s)))
      writing (by simp) (by simp) (by simp) (by simp) g _ k .ok (word op.total)
    refine ⟨t, e, ?_, rest⟩
    rw [ready, stagedData, staging]
  case fails =>
    have loading' : (freeChannel c (freeBus s)).glyph g = .loading w h sep k l :=
      (glyph_eq_of_glyphs (by simp) g).trans loading
    have ended : exec (.fetchBurstEnd a) s = finish (loadFails g x op (freeChannel c (freeBus s))) := by
      obtain ⟨rfl, rfl⟩ | ⟨rfl, rfl, due⟩ := how
      · rw [exec_fetchBurstEnd flying hc hop fetch rfl]
        simp [fetchEnds, operationFails, owner]
      · rw [exec_fetchBurstEnd flying hc hop fetch (by simp [readMayEnd, Flight.expired, due])]
        simp [fetchEnds, operationFails, owner]
    rw [ended, loadFails_of_loading loading']
    obtain ⟨t, e, -, rest⟩ := finish_loadOver (u := freeChannel c (freeBus s)) writing (by simp) (by simp) (by simp)
      (by simp) g .empty k x (word (op.done / glyphBytes w h))
    exact ⟨t, e, rest⟩

end Sys2Proof.Machine
end

section
/-! PROOFS. Slots given and operations taken (R63, R69): the slots that an allocation marks, and the grant of a channel
to an operation that joins the wait queue. -/

namespace Sys2Proof.Machine

/-! ## An element of a sorted list -/

/-- In a sorted list every element that stands before `b` is below `b`. -/
theorem exists_append_cons_of_pairwise {α : Type} {R : α → α → Prop} {l : List α} {b : α} (sorted : l.Pairwise R)
    (hb : b ∈ l) : ∃ as bs, l = as ++ b :: bs ∧ ∀ a ∈ as, R a b := by
  obtain ⟨as, bs, rfl⟩ := List.append_of_mem hb
  exact ⟨as, bs, rfl, fun a ha => (List.pairwise_append.1 sorted).2.2 a ha b List.mem_cons_self⟩

/-! ## Slots (R63) -/

theorem setSlotsOf_slot (l : List (Fin 24)) (v : SlotState) (s : State) (i : Fin 24) :
    (setSlotsOf l v s).slot i = if i ∈ l then v else s.slot i := by
  simp [setSlotsOf]

theorem mem_freeSlots {s : State} {i : Fin 24} : i ∈ s.freeSlots ↔ s.slot i = .free := by
  simp [State.freeSlots]

theorem freeSlots_sorted (s : State) : s.freeSlots.Pairwise (· < ·) :=
  (List.pairwise_lt_finRange 24).filter _

/-- The slots that an allocation takes are the lowest-numbered FREE ones. -/
theorem lowestFree_take {s : State} {need : Nat} (enough : need ≤ s.freeSlots.length) :
    LowestFree s need (s.freeSlots.take need) := by
  refine ⟨by simp [enough], (freeSlots_sorted s).sublist (List.take_sublist _ _),
    fun i hi => mem_freeSlots.1 (List.mem_of_mem_take hi), fun i hi j hj hout => ?_⟩
  have left := mem_freeSlots.2 hj
  have sorted := freeSlots_sorted s
  rw [← List.take_append_drop need s.freeSlots, List.mem_append] at left
  rw [← List.take_append_drop need s.freeSlots, List.pairwise_append] at sorted
  exact sorted.2.2 i hi j (left.resolve_left hout)

theorem allocate_enough {need : Nat} {s : State} (enough : need ≤ s.freeSlots.length) (o : Owner) :
    allocate need o s = some (s.freeSlots.take need, setSlotsOf (s.freeSlots.take need) (.owned o) s) :=
  if_pos enough

/-! ## Grants (R69) -/

theorem grantTo_of_busy {s : State} {c : Fin 4} (h : s.channel c ≠ .free) : grantTo s c = s := by
  unfold grantTo
  split
  · exact absurd ‹_› h
  · rfl

theorem grantTo_of_queue_nil {s : State} (h : s.waitQueue = []) (c : Fin 4) : grantTo s c = s := by
  simp [grantTo, h]

theorem grantTo_of_free {s : State} {c : Fin 4} {op : Operation} {rest : List Operation} (hc : s.channel c = .free)
    (hq : s.waitQueue = op :: rest) :
    grantTo s c = markGranted op ((s.setWaitQueue rest).setChannel c (.loaded op)) := by
  simp only [grantTo, hc, hq]

theorem foldl_grantTo_of_busy {s : State} {l : List (Fin 4)} (h : ∀ c ∈ l, s.channel c ≠ .free) :
    l.foldl grantTo s = s := by
  induction l with
  | nil => rfl
  | cons c l ih =>
    obtain ⟨hc, hl⟩ := List.forall_mem_cons.1 h
    rw [List.foldl_cons, grantTo_of_busy hc, ih hl]

theorem foldl_grantTo_of_queue_nil {s : State} (h : s.waitQueue = []) (l : List (Fin 4)) : l.foldl grantTo s = s :=
  List.foldlRecOn (motive := (· = s)) l grantTo rfl fun u hu c _ => by rw [hu, grantTo_of_queue_nil h]

/-- While no channel is FREE an operation waits at the queue's tail. -/
theorem carry_of_busy {s : State} (busy : ∀ c, s.channel c ≠ .free) (op : Operation) :
    carry op s = s.setWaitQueue (s.waitQueue ++ [op]) :=
  foldl_grantTo_of_busy fun c _ => busy c

/-- An operation that nothing else waits with is granted the lowest-numbered FREE channel. -/
theorem carry_of_alone {s : State} (alone : s.waitQueue = []) {c : Fin 4} (free : s.channel c = .free)
    (lowest : ∀ c', c' < c → s.channel c' ≠ .free) (op : Operation) :
    carry op s = markGranted op ((s.setWaitQueue []).setChannel c (.loaded op)) := by
  obtain ⟨as, bs, split, before⟩ := exists_append_cons_of_pairwise (List.pairwise_lt_finRange 4) (List.mem_finRange c)
  have joined : joinQueue op s = s.setWaitQueue [op] := by rw [joinQueue, alone, List.nil_append]
  rw [carry, grantAll, split, List.foldl_append, joined,
    foldl_grantTo_of_busy (s := s.setWaitQueue [op]) fun c' hc' => lowest c' (before c' hc'), List.foldl_cons,
    grantTo_of_free (s := s.setWaitQueue [op]) free rfl]
  exact foldl_grantTo_of_queue_nil (by simp) bs

theorem carried_carry (op : Operation) (s : State) : Carried op s (carry op s) := by
  refine ⟨fun busy => ?_, fun alone c free lowest => ?_⟩
  · rw [carry_of_busy busy]
    exact ⟨rfl, rfl⟩
  · rw [carry_of_alone alone free lowest]
    have channels (c' : Fin 4) : (markGranted op ((s.setWaitQueue []).setChannel c (.loaded op))).channel c' =
        ((s.setWaitQueue []).setChannel c (.loaded op)).channel c' := by
      simp [State.channel]
    refine ⟨by simp, by simp [channels], fun c' hc' => ?_⟩
    rw [channels, State.setChannel_channel_of_ne _ _ hc'.symm, State.setWaitQueue_channel]

/-- The lowest-numbered FREE channel, where one is FREE. -/
theorem exists_lowest_free {s : State} (h : ∃ c, s.channel c = .free) :
    ∃ c, s.channel c = .free ∧ ∀ c', c' < c → s.channel c' ≠ .free := by
  obtain ⟨c, free, lowest⟩ := wellFounded_lt.has_min {c | s.channel c = .free} h
  exact ⟨c, free, fun c' hlt free' => lowest c' free' hlt⟩

/-- A glyph fetch that waits alone, or behind others while no channel is FREE, changes the channels and the queue
alone. -/
theorem carry_glyph_eq {op : Operation} {g : Fin 4} (owner : op.owner = .glyph g) {s : State}
    (h : s.waitQueue = [] ∨ ∀ c, s.channel c ≠ .free) :
    ∃ cs q, carry op s = { s with channels := cs, waitQueue := q } := by
  by_cases busy : ∀ c, s.channel c ≠ .free
  · exact ⟨_, _, carry_of_busy busy op⟩
  · obtain ⟨c, free, lowest⟩ := exists_lowest_free (s := s) (by simpa using busy)
    rw [carry_of_alone (h.resolve_right busy) free lowest]
    simp only [markGranted, owner]
    exact ⟨_, _, rfl⟩

end Sys2Proof.Machine
end

section
/-! PROOFS. GLYPH_LOAD (O52): the owner's rulings, one for each check of R132, and the load that an accepted record
begins (R133). -/

namespace Sys2Proof.Machine

/-- The bindings of a kind, counted place by place. -/
theorem countP_placed (f : Binding → Bool) (s : State) :
    (s.placed.countP fun x => f x.2.2) = (List.finRange 32).countP fun i => s.bindings[i].any f := by
  rw [placed_eq, List.countP_filterMap, finRange_eq_places, List.countP_map]
  refine List.countP_congr fun x _ => ?_
  simp only [State.binding, Function.comp_apply]
  cases s.bindings[placeOf x.1 x.2] <;> simp

theorem stateCode_eq_one_iff {v : GlyphSet} : v.stateCode = 1 ↔ ∃ w h sep k l, v = .loading w h sep k l := by
  cases v <;> simp [GlyphSet.stateCode]

/-! ## The owner's rulings (R132) -/

/-- The owner's field checks, in their order. -/
theorem LoadBody.failing_mk (i w h sep a : Nat) :
    (LoadBody.mk i w h sep a).failing =
      if w < 4 ∨ 32 < w then some 2
      else if h < 5 ∨ 48 < h then some 3
      else if sep < 1 ∨ w < sep then some 4
      else if 2 ^ 64 < a + glyphSetBytes w h then some 5
      else none := by
  simp only [LoadBody.failing, firstFailing, Bool.or_eq_true, decide_eq_true_eq]

section
variable {t : Ticket} {record : List Byte} {s : State} {b : LoadBody} (hb : loadBody record = b)
include hb

theorem glyphLoadOwner_badSet (h : 3 < b.set) : glyphLoadOwner t record s = refuse .refusedParam 1 0 s := by
  simp [glyphLoadOwner, hb, idOf_big (n := 4) h]

variable {g : Fin 4} (hg : b.set = g.val)
include hg

theorem glyphLoadOwner_loading (h : (s.glyph g).stateCode = 1) :
    glyphLoadOwner t record s = refuse .refusedState 1 0 s := by
  simp [glyphLoadOwner, hb, idOf_val g hg, h]

variable (h : (s.glyph g).stateCode ≠ 1)
include h

theorem glyphLoadOwner_inUse (hu : references g s ≠ 0) :
    glyphLoadOwner t record s = refuse .inUse (references g s) 0 s := by
  simp [glyphLoadOwner, hb, idOf_val g hg, h, hu]

variable (hu : references g s = 0)
include hu

theorem glyphLoadOwner_badField {n : Nat} (hf : b.failing = some n) :
    glyphLoadOwner t record s = refuse .refusedParam n 0 s := by
  simp [glyphLoadOwner, hb, idOf_val g hg, h, hu, hf]

theorem glyphLoadOwner_accepts (hf : b.failing = none) {need : Nat}
    (hneed : slotNeed (glyphSetBytes b.width b.height) = need) (enough : need ≤ s.freeSlots.length) :
    glyphLoadOwner t record s = .accepted (beginLoad g t b (s.freeSlots.take need)
      (setSlotsOf (s.freeSlots.take need) (.owned (.glyph g)) s)) := by
  simp [glyphLoadOwner, hb, idOf_val g hg, h, hu, hf, hneed, allocate_enough enough]

end

/-! ## The load (R133) -/

@[simp] theorem afterTake_glyph (s : State) (r : RingId) (g : Fin 4) : (afterTake s r).glyph g = s.glyph g :=
  glyph_eq_of_glyphs (by simp) g

@[simp] theorem afterTake_slot (s : State) (r : RingId) (i : Fin 24) : (afterTake s r).slot i = s.slot i :=
  slot_eq_of_slots (by simp) i

@[simp] theorem afterTake_freeSlots (s : State) (r : RingId) : (afterTake s r).freeSlots = s.freeSlots :=
  freeSlots_congr (by simp)

theorem Carried.congr {op : Operation} {s s' t t' : State} (h : Carried op s t) (hc : s'.channels = s.channels)
    (hq : s'.waitQueue = s.waitQueue) (hc' : t'.channels = t.channels) (hq' : t'.waitQueue = t.waitQueue) :
    Carried op s' t' := by
  simpa only [Carried, State.channel, hc, hq, hc', hq'] using h

theorem SameButChoice.channels_eq {s t : State} (h : SameButChoice s t) : t.channels = s.channels := by
  obtain ⟨_, _, _, rfl⟩ := h.exists_eq
  rfl

theorem SameButChoice.waitQueue_eq {s t : State} (h : SameButChoice s t) : t.waitQueue = s.waitQueue := by
  obtain ⟨_, _, _, rfl⟩ := h.exists_eq
  rfl

theorem beginLoad_slots (g : Fin 4) (k : Ticket) (b : LoadBody) (l : List (Fin 24)) (s : State) :
    (beginLoad g k b l s).slots = s.slots := by
  simp [beginLoad]

/-- A load begun with the slots of an allocation, where its fetch waits alone or no channel is FREE, changes its set,
the slots, the channels and the queue alone. -/
theorem beginLoad_setSlotsOf {s : State} (grant : s.waitQueue = [] ∨ ∀ c, s.channel c ≠ .free) (g : Fin 4) (k : Ticket)
    (b : LoadBody) (l : List (Fin 24)) (v : SlotState) :
    ∃ ss cs q, beginLoad g k b l (setSlotsOf l v s) =
      { s.setGlyph g (.loading b.width b.height b.separatorWidth k l) with
        slots := ss, channels := cs, waitQueue := q } := by
  obtain ⟨ss, given⟩ : ∃ ss, setSlotsOf l v s = s.setSlots ss := ⟨_, rfl⟩
  obtain ⟨cs, q, e⟩ := carry_glyph_eq (op := loadOperation g b l) (g := g)
    (s := (s.setSlots ss).setGlyph g (.loading b.width b.height b.separatorWidth k l)) rfl grant
  exact ⟨ss, cs, q, by rw [beginLoad, given, e]; rfl⟩

/-- An accepted load, in the state before the take: its slots are the set's, and its fetch is asked of TU. -/
theorem beginLoad_taken {s t : State} {r : RingId} {g : Fin 4} {k : Ticket} {b : LoadBody} {l : List (Fin 24)}
    (grant : s.waitQueue = [] ∨ ∀ c, s.channel c ≠ .free)
    (ht : SameButChoice (beginLoad g k b l (setSlotsOf l (.owned (.glyph g)) (afterTake s r))) t) :
    (∀ i, t.slot i = if i ∈ l then .owned (.glyph g) else s.slot i) ∧ Carried (loadOperation g b l) s t ∧
      SameButChoice { (afterTake s r).setGlyph g (.loading b.width b.height b.separatorWidth k l) with
        slots := t.slots, channels := t.channels, waitQueue := t.waitQueue } t := by
  refine ⟨fun i => ?_, (carried_carry _ _).congr (by simp) (by simp) ht.channels_eq ht.waitQueue_eq, ?_⟩
  · rw [ht.slot_eq, slot_eq_of_slots (beginLoad_slots ..), setSlotsOf_slot, afterTake_slot]
  · have grant' : (afterTake s r).waitQueue = [] ∨ ∀ c, (afterTake s r).channel c ≠ .free := by
      simpa [State.channel] using grant
    obtain ⟨_, _, _, begun⟩ := beginLoad_setSlotsOf grant' g k b l (.owned (.glyph g))
    rw [begun] at ht
    rw [ht.slots_eq, ht.channels_eq, ht.waitQueue_eq]
    exact ht

/-- Settles O52: the owner's ruling for each check, and the load that the record which passes them all begins. -/
theorem glyphLoadRecords : Obligations.GlyphLoadRecords := by
  intro s r record w h sep a held hw hh hsep ha
  have body : loadBody record = .mk (byteAt record 16) w h sep a := by
    simp only [loadBody, hw, hh, hsep, ha]
  refine ⟨fun big => dispatch_refused held (glyphLoadOwner_badSet body big), fun g hg => ?_⟩
  rw [← afterTake_glyph s r g]
  refine ⟨fun loading => dispatch_refused held (glyphLoadOwner_loading body hg (stateCode_eq_one_iff.2 loading)),
    fun free bs hbs => ?_⟩
  have idle : ((afterTake s r).glyph g).stateCode ≠ 1 := fun one => by
    obtain ⟨w, h, sep, k, l, e⟩ := stateCode_eq_one_iff.1 one
    exact free w h sep k l e
  have hrefs : references g (afterTake s r) = bs := by
    rw [hbs, references]
    exact (countP_placed (fun b => b.glyphSet == g) _).trans (by simp)
  refine ⟨fun used => ?inUse, fun unused => ?_⟩
  case inUse =>
    subst hrefs
    exact dispatch_refused held (glyphLoadOwner_inUse body hg idle used)
  have unnamed := hrefs.trans unused
  have refused {n : Nat} (hf : (LoadBody.mk (byteAt record 16) w h sep a).failing = some n) :
      ∃ t, exec .glyphLoad s = .next t ∧ SameButChoice (afterAnswer s r record .refusedParam n 0) t :=
    dispatch_refused held (glyphLoadOwner_badField body hg idle unnamed hf)
  have checks := LoadBody.failing_mk (byteAt record 16) w h sep a
  refine ⟨fun bad => refused (checks.trans (if_pos bad)), fun w4 w32 => ?_⟩
  have checks := checks.trans (if_neg (by omega))
  refine ⟨fun bad => refused (checks.trans (if_pos bad)), fun h5 h48 => ?_⟩
  have checks := checks.trans (if_neg (by omega))
  refine ⟨fun bad => refused (checks.trans (if_pos bad)), fun sep1 sepw => ?_⟩
  have checks := checks.trans (if_neg (by omega))
  refine ⟨fun bad => refused (checks.trans (if_pos bad)), fun fits enough grant => ?_⟩
  have passes := checks.trans (if_neg (Nat.not_lt.2 fits))
  have need : slotNeed (glyphSetBytes w h) = (13 * ((w + 7) / 8 * h) + 2047) / 2048 := rfl
  generalize (13 * ((w + 7) / 8 * h) + 2047) / 2048 = n at *
  obtain ⟨t, e, ht⟩ := dispatch_accepted held
    (glyphLoadOwner_accepts body hg idle unnamed passes need ((afterTake_freeSlots s r).symm ▸ enough))
  rw [afterTake_freeSlots] at ht
  exact ⟨t, _, e, lowestFree_take enough, beginLoad_taken grant ht⟩

end Sys2Proof.Machine
end

section
/-! PROOFS. The checks of a TALLY_BIND on the record's bytes (R137, steps 7 to 11), and the binding that it makes
(R136). -/

namespace Sys2Proof.Machine

/-! ## Separators (R136, 11.7.1) -/

theorem separatorOf_eq_none_iff (x : Nat) : separatorOf x = none ↔ 2 < x := by
  match x with
  | 0 | 1 | 2 => simp [separatorOf]
  | x + 3 => simp [separatorOf]

/-- A separator by its code. -/
theorem separatorOf_getD {x : Nat} (h : x ≤ 2) :
    (separatorOf x).getD .none = if x = 0 then .none else if x = 1 then .colon else .point := by
  obtain rfl | rfl | rfl : x = 0 ∨ x = 1 ∨ x = 2 := by omega
  all_goals rfl

/-- The separator entries that a tally of `n` digits uses, on the record's bytes. -/
theorem used_eq (record : List Byte) (n : Nat) :
    (bindBody record).used n = (List.range (min 7 (n - 1))).map fun j => byteAt record (29 + j) := by
  simp [BindBody.used, bindBody, bytesAt, ← List.map_take, List.take_range, Nat.min_comm]

section
variable {record : List Byte} {n : Nat}

/-- The entry that is refused is the lowest that is no code. -/
theorem badSeparator_some {b : Nat} (hb : b < min 7 (n - 1)) (bad : 2 < byteAt record (29 + b))
    (lowest : ∀ j, j < b → byteAt record (29 + j) ≤ 2) : badSeparator ((bindBody record).used n) = some b := by
  rw [used_eq, badSeparator, List.findIdx?_eq_some_iff_getElem]
  refine ⟨by simpa using hb, by simpa [separatorOf_eq_none_iff] using bad, fun j hj => ?_⟩
  simpa [separatorOf_eq_none_iff] using lowest j hj

theorem badSeparator_isSome_iff (w : Nat) (c : PanelConfig) :
    (badSeparator ((bindBody record).used n)).isSome = true ↔ ¬bindFieldPasses record w n c 11 := by
  simp [used_eq, badSeparator, separatorOf_eq_none_iff, bindFieldPasses, and_assoc]

end

/-! ## The first failing check (R137) -/

/-- The owner's checks are those of R137, in the order of the fields; of the separators it reports the entry. -/
theorem bindFieldRefusal_eq (record : List Byte) (w n : Nat) (c : PanelConfig)
    [DecidablePred (bindFieldPasses record w n c)] :
    bindFieldRefusal (bindBody record) w n c =
      (firstFailing ((List.range' 7 6).map fun f => (f, decide ¬bindFieldPasses record w n c f))).map
        fun f => (f, if f = 11 then (badSeparator ((bindBody record).used n)).getD 0 else 0) := by
  have pitch : ((bindBody record).pitch < w || 40 < (bindBody record).pitch) = true ↔
      ¬bindFieldPasses record w n c 7 := by
    rw [Bool.or_eq_true, decide_eq_true_eq, decide_eq_true_eq]
    simp only [bindFieldPasses, bindBody]
    omega
  have foreground : c.highestShade < (bindBody record).foreground ↔ ¬bindFieldPasses record w n c 8 := by
    simp only [bindFieldPasses, bindBody, PanelConfig.highestShade, Nat.not_le]
  have background : c.highestShade < (bindBody record).background ↔ ¬bindFieldPasses record w n c 9 := by
    simp only [bindFieldPasses, bindBody, PanelConfig.highestShade, Nat.not_le]
  have blank : n - 1 < (bindBody record).blankLeading ↔ ¬bindFieldPasses record w n c 10 := by
    simp only [bindFieldPasses, bindBody, Nat.not_le]
  have separators := badSeparator_isSome_iff (record := record) (n := n) w c
  have expiry : ((bindBody record).expiryPresent && 3 < (bindBody record).expiryGroup) = true ↔
      ¬bindFieldPasses record w n c 12 := by
    rw [Bool.and_eq_true, decide_eq_true_eq]
    simp [bindFieldPasses, bindBody]
  unfold bindFieldRefusal
  simp only [pitch, foreground, background, blank, expiry, List.range', List.map, firstFailing, decide_eq_true_eq]
  cases bad : badSeparator ((bindBody record).used n) with
  | none =>
    have passes : bindFieldPasses record w n c 11 := by simpa [bad] using separators
    simp only [passes, not_true_eq_false, if_false]
    split_ifs <;> rfl
  | some b =>
    have fails : ¬bindFieldPasses record w n c 11 := by simpa [bad] using separators
    simp only [fails, not_false_eq_true, if_true]
    split_ifs <;> rfl

/-- A record is refused for the first field that R137 does not let pass. -/
theorem bindFieldRefusal_some {record : List Byte} {w n : Nat} {c : PanelConfig} {f b : Nat} (h7 : 7 ≤ f) (h12 : f ≤ 12)
    (hf : ¬bindFieldPasses record w n c f) (hlow : ∀ m, 7 ≤ m → m < f → bindFieldPasses record w n c m)
    (entry : f = 11 → b < min 7 (n - 1) ∧ 2 < byteAt record (29 + b) ∧ ∀ j, j < b → byteAt record (29 + j) ≤ 2)
    (other : f ≠ 11 → b = 0) : bindFieldRefusal (bindBody record) w n c = some (f, b) := by
  classical
  rw [bindFieldRefusal_eq, firstFailing_range'_some _ (decide_eq_true hf) 6 7 h7 (by omega) fun m h h' => by
    simp [hlow m h h'], Option.map_some]
  by_cases h11 : f = 11
  · obtain ⟨hb, bad, lowest⟩ := entry h11
    rw [if_pos h11, badSeparator_some hb bad lowest, Option.getD_some]
  · rw [if_neg h11, other h11]

theorem bindFieldRefusal_none {record : List Byte} {w n : Nat} {c : PanelConfig}
    (h : ∀ f, bindFieldPasses record w n c f) : bindFieldRefusal (bindBody record) w n c = none := by
  classical
  rw [bindFieldRefusal_eq, Option.map_eq_none_iff, firstFailing_eq_none_iff]
  simp [h]

/-! ## The binding (R136) -/

/-- The separators drawn are the used entries that are not NONE. -/
theorem bindRect_eq (record : List Byte) (n sep h : Nat) :
    bindRect (bindBody record) n sep h =
      { x := field16 record 20, y := field16 record 22
        w := n * byteAt record 25 +
          ((List.range (min 7 (n - 1))).countP fun j => byteAt record (29 + j) != 0) * sep
        h := h } := by
  rw [bindRect, used_eq, List.countP_map]
  rfl

/-- The binding of a record whose separators and expiry group pass, on its bytes. -/
theorem newBinding_eq {record : List Byte} {n : Nat} {codes : List Nat}
    (hcodes : codes = (List.range (min 7 (n - 1))).map fun j => byteAt record (29 + j)) (known : ∀ x ∈ codes, x ≤ 2)
    (expiry : byteAt record 37 % 2 = 1 → byteAt record 36 ≤ 3) (p : PanelId) (g : Fin 4) (q : Rect) :
    newBinding p g (bindBody record) n q =
      { panel := p, rect := q, glyphSet := g, pitch := byteAt record 25, foreground := byteAt record 26
        background := byteAt record 27, blankLeading := byteAt record 28
        separators := codes.map fun x => if x = 0 then .none else if x = 1 then .colon else .point
        expiryGroup := if byteAt record 37 % 2 = 1 then some (Fin.ofNat 4 (byteAt record 36)) else none
        dirty := true } := by
  have separators : ((bindBody record).used n).map (fun x => (separatorOf x).getD .none) =
      codes.map fun x => if x = 0 then .none else if x = 1 then .colon else .point := by
    rw [used_eq, ← hcodes]
    exact List.map_congr_left fun x hx => separatorOf_getD (known x hx)
  have group : (if (bindBody record).expiryPresent then idOf 4 (bindBody record).expiryGroup else none) =
      if byteAt record 37 % 2 = 1 then some (Fin.ofNat 4 (byteAt record 36)) else none := by
    by_cases present : byteAt record 37 % 2 = 1
    · have small := expiry present
      rw [if_pos present, if_pos (by simp [bindBody, present])]
      exact idOf_val (v := byteAt record 36) (Fin.ofNat 4 (byteAt record 36)) (Nat.mod_eq_of_lt (by omega)).symm
    · rw [if_neg present, if_neg (by simp [bindBody, present])]
  simp only [newBinding, separators, group]
  rfl

/-- The width that the codes of the separators give is the one that their bytes give. -/
theorem length_filter_codes (record : List Byte) (n : Nat) :
    (((List.range n).map fun j => byteAt record (29 + j)).filter (· ≠ 0)).length =
      (List.range n).countP fun j => byteAt record (29 + j) != 0 := by
  rw [← List.countP_eq_length_filter, List.countP_map]
  exact List.countP_congr fun j _ => by simp

end Sys2Proof.Machine
end

section
/-! PROOFS. TALLY_BIND and TALLY_UNBIND (O53): the reserved rectangles in a binding's way, the owners' rulings, one for
each check, and their effects. -/

namespace Sys2Proof.Machine

/-! ## The reserved rectangles in the way (R9, R25) -/

/-- Places in rising tally and slot order. -/
def placeBefore (x y : TallyId × Fin 2) : Prop := x.1 < y.1 ∨ x.1 = y.1 ∧ x.2 < y.2

theorem places_sorted : places.Pairwise placeBefore := by
  unfold placeBefore
  decide

theorem mem_places (x : TallyId × Fin 2) : x ∈ places := by
  simp only [places, List.mem_flatMap, List.mem_map, List.mem_finRange, true_and]
  exact ⟨x.1, x.2, rfl⟩

/-- Whether the binding of a place is in the way of a rect. -/
def blocks (s : State) (p : PanelId) (q : Rect) (x : TallyId × Fin 2) : Bool :=
  (s.binding x.1 x.2).any fun b => b.panel == p && q.intersects b.rect

theorem blocks_iff {s : State} {p : PanelId} {q : Rect} {x : TallyId × Fin 2} :
    blocks s p q x = true ↔ clashes s p q x.1 x.2 := by
  simp [blocks, clashes, Option.any_eq_true]

theorem conflictingBinding_eq (s : State) (p : PanelId) (q : Rect) :
    conflictingBinding p q s = places.find? (blocks s p q) := by
  rw [conflictingBinding, placed_eq, List.find?_filterMap]
  have blocking : (fun x : TallyId × Fin 2 => Option.any (fun y => y.2.2.panel == p && q.intersects y.2.2.rect)
      ((s.binding x.1 x.2).map fun b => (x.1, x.2, b))) = blocks s p q := by
    funext x
    unfold blocks
    cases s.binding x.1 x.2 <;> rfl
  rw [blocking]
  cases found : places.find? (blocks s p q) with
  | none => rfl
  | some x =>
    obtain ⟨b, hb, -⟩ := blocks_iff.1 (List.find?_some found)
    simp [hb]

theorem conflictingBinding_some {s : State} {p : PanelId} {q : Rect} {t : TallyId} {k : Fin 2}
    (h : clashes s p q t k) (first : ∀ t' k', t' < t ∨ t' = t ∧ k' < k → ¬clashes s p q t' k') :
    conflictingBinding p q s = some (t, k) := by
  obtain ⟨as, bs, split, before⟩ := exists_append_cons_of_pairwise places_sorted (mem_places (t, k))
  rw [conflictingBinding_eq, List.find?_eq_some_iff_append]
  refine ⟨blocks_iff.2 h, as, bs, split, fun x hx => ?_⟩
  simpa [← blocks_iff] using first x.1 x.2 (before x hx)

theorem conflictingBinding_none {s : State} {p : PanelId} {q : Rect} (h : ∀ t k, ¬clashes s p q t k) :
    conflictingBinding p q s = none := by
  rw [conflictingBinding_eq, List.find?_eq_none]
  exact fun x _ => blocks_iff.not.2 (h x.1 x.2)

/-! ## A binding that passes the field checks (R137, steps 12 to 15) -/

theorem Rect.validFor_iff (q : Rect) (c : PanelConfig) :
    q.validFor c = true ↔ (1 ≤ q.w ∧ 1 ≤ q.h) ∧ q.x + q.w ≤ c.width ∧ q.y + q.h ≤ c.height := by
  simp only [Rect.validFor, Bool.and_eq_true, decide_eq_true_eq, and_assoc]

theorem Rect.validFor.not_tooWide {q : Rect} {c : PanelConfig} (valid : q.validFor c = true) :
    ¬c.width < q.x + q.w := by
  obtain ⟨-, wide, -⟩ := (q.validFor_iff c).1 valid
  exact Nat.not_lt.2 wide

section
variable {p : PanelId} {c : PanelConfig} {t : TallyId} {k : Fin 2} {v : Binding} {s : State}

theorem bindPlaced_tooWide (h : c.width < v.rect.x + v.rect.w) :
    bindPlaced p c t k v s = refuse .refusedParam 4 0 s :=
  if_pos h

theorem bindPlaced_tooHigh (hw : v.rect.x + v.rect.w ≤ c.width) (h : c.height < v.rect.y + v.rect.h) :
    bindPlaced p c t k v s = refuse .refusedParam 5 0 s := by
  have invalid : ¬v.rect.validFor c = true := by
    rw [Rect.validFor_iff]
    omega
  simp [bindPlaced, Nat.not_lt.2 hw, invalid]

variable (valid : v.rect.validFor c = true)
include valid

theorem bindPlaced_reserved {t' : TallyId} {k' : Fin 2} (h : conflictingBinding p v.rect s = some (t', k')) :
    bindPlaced p c t k v s = refuse .conflict t'.val k'.val s := by
  simp [bindPlaced, Rect.validFor.not_tooWide valid, valid, h]

variable (unreserved : conflictingBinding p v.rect s = none)
include unreserved

theorem bindPlaced_pending {e : Entry} (h : conflictingEntry p v.rect s = some e) :
    bindPlaced p c t k v s = .answered .conflict 16 e.ticket.tag s := by
  simp [bindPlaced, Rect.validFor.not_tooWide valid, valid, unreserved, h]

theorem bindPlaced_accepts (h : conflictingEntry p v.rect s = none) :
    bindPlaced p c t k v s = .answered .ok (word v.rect.w) (word v.rect.h) (s.setBinding t k (some v)) := by
  simp [bindPlaced, Rect.validFor.not_tooWide valid, valid, unreserved, h]

end

/-! ## The owner's rulings on a TALLY_BIND (R137) -/

@[simp] theorem afterTake_tally (s : State) (r : RingId) (t : TallyId) : (afterTake s r).tally t = s.tally t := by
  simp [State.tally]

@[simp] theorem afterTake_binding (s : State) (r : RingId) (t : TallyId) (i : Fin 2) :
    (afterTake s r).binding t i = s.binding t i := by
  simp [State.binding]

theorem afterTake_clashes (s : State) (r : RingId) (p : PanelId) (q : Rect) (t : TallyId) (i : Fin 2) :
    clashes (afterTake s r) p q t i ↔ clashes s p q t i := by
  simp [clashes]

theorem afterTake_conflictingEntry (s : State) (r : RingId) (p : PanelId) (q : Rect) :
    conflictingEntry p q (afterTake s r) = conflictingEntry p q s := by
  simp [conflictingEntry]

section
variable {k : Ticket} {record : List Byte} {s : State} {r : RingId}

theorem tallyBindOwner_badTally (h : idOf 16 (bindBody record).tally = none) :
    tallyBindOwner k record (afterTake s r) = refuse .refusedParam 1 0 (afterTake s r) := by
  simp [tallyBindOwner, h]

variable {t : TallyId} (ht : idOf 16 (bindBody record).tally = some t)
include ht

theorem tallyBindOwner_badSlot (h : idOf 2 (bindBody record).slot = none) :
    tallyBindOwner k record (afterTake s r) = refuse .refusedParam 2 0 (afterTake s r) := by
  simp [tallyBindOwner, ht, h]

variable {i : Fin 2} (hi : idOf 2 (bindBody record).slot = some i)
include hi

theorem tallyBindOwner_undefined (h : (s.tally t).defn = none) :
    tallyBindOwner k record (afterTake s r) = refuse .refusedState 1 0 (afterTake s r) := by
  simp [tallyBindOwner, ht, hi, h]

variable {d : TallyDef} (hd : (s.tally t).defn = some d)
include hd

theorem tallyBindOwner_inUse {b : Binding} (h : s.binding t i = some b) :
    tallyBindOwner k record (afterTake s r) = refuse .inUse b.panel.val 0 (afterTake s r) := by
  simp [tallyBindOwner, ht, hi, hd, h]

variable (empty : s.binding t i = none)
include empty

theorem tallyBindOwner_badPanel (h : idOf 4 (bindBody record).panel = none) :
    tallyBindOwner k record (afterTake s r) = refuse .refusedParam 3 0 (afterTake s r) := by
  simp [tallyBindOwner, ht, hi, hd, empty, h]

variable {p : PanelId} (hp : idOf 4 (bindBody record).panel = some p)
include hp

theorem tallyBindOwner_unconfigured (h : (s.port p).config = none) :
    tallyBindOwner k record (afterTake s r) = refuse .refusedParam 3 0 (afterTake s r) := by
  simp [tallyBindOwner, ht, hi, hd, empty, hp, h]

variable {c : PanelConfig} (hc : (s.port p).config = some c)
include hc

theorem tallyBindOwner_badSet (h : idOf 4 (bindBody record).glyphSet = none) :
    tallyBindOwner k record (afterTake s r) = refuse .refusedParam 6 0 (afterTake s r) := by
  simp [tallyBindOwner, ht, hi, hd, empty, hp, hc, h]

variable {g : Fin 4} (hg : idOf 4 (bindBody record).glyphSet = some g)
include hg

theorem tallyBindOwner_emptySet (h : s.glyph g = .empty) :
    tallyBindOwner k record (afterTake s r) = refuse .refusedState 6 0 (afterTake s r) := by
  simp [tallyBindOwner, ht, hi, hd, empty, hp, hc, hg, h]

theorem tallyBindOwner_loadingSet {w h sep : Nat} {load : Ticket} {l : List (Fin 24)}
    (hs : s.glyph g = .loading w h sep load l) :
    tallyBindOwner k record (afterTake s r) = refuse .refusedState 6 1 (afterTake s r) := by
  simp [tallyBindOwner, ht, hi, hd, empty, hp, hc, hg, hs]

variable {w h sep n : Nat} {data : List Byte} (hs : s.glyph g = .ready w h sep data) (hn : d.digits = n)
include hs hn

theorem tallyBindOwner_badField {f b : Nat} (hf : bindFieldRefusal (bindBody record) w n c = some (f, b)) :
    tallyBindOwner k record (afterTake s r) = refuse .refusedParam f b (afterTake s r) := by
  simp [tallyBindOwner, ht, hi, hd, empty, hp, hc, hg, hs, hn, hf]

/-- With every field in range the binding is placed. -/
theorem tallyBindOwner_placed (passes : ∀ f, bindFieldPasses record w n c f) :
    tallyBindOwner k record (afterTake s r) =
      bindPlaced p c t i (newBinding p g (bindBody record) n (bindRect (bindBody record) n sep h)) (afterTake s r) := by
  simp [tallyBindOwner, ht, hi, hd, empty, hp, hc, hg, hs, hn, bindFieldRefusal_none passes]

end

/-! ## The owner's rulings on a TALLY_UNBIND (R140) -/

section
variable {k : Ticket} {record : List Byte} {s : State} {r : RingId}

theorem tallyUnbindOwner_badTally (h : idOf 16 (byteAt record 16) = none) :
    tallyUnbindOwner k record (afterTake s r) = refuse .refusedParam 1 0 (afterTake s r) := by
  simp [tallyUnbindOwner, h]

variable {t : TallyId} (ht : idOf 16 (byteAt record 16) = some t)
include ht

theorem tallyUnbindOwner_badSlot (h : idOf 2 (byteAt record 17) = none) :
    tallyUnbindOwner k record (afterTake s r) = refuse .refusedParam 2 0 (afterTake s r) := by
  simp [tallyUnbindOwner, ht, h]

variable {i : Fin 2} (hi : idOf 2 (byteAt record 17) = some i)
include hi

theorem tallyUnbindOwner_empty (h : s.binding t i = none) :
    tallyUnbindOwner k record (afterTake s r) = refuse .notFound 0 0 (afterTake s r) := by
  simp [tallyUnbindOwner, ht, hi, h]

theorem tallyUnbindOwner_accepts {b : Binding} (h : s.binding t i = some b) :
    tallyUnbindOwner k record (afterTake s r) =
      .answered .ok (word b.panel.val) 0 ((afterTake s r).setBinding t i none) := by
  simp [tallyUnbindOwner, ht, hi, h]

end

/-- A place that an owner sets on answering is set in the state in which the record has been answered. -/
theorem dispatch_answered_binding {k : Kind} {o : RecordOwner} {s : State} {r : RingId} {record : List Byte}
    (h : Held k s r record) {a b : Nat} {t : TallyId} {i : Fin 2} {v : Option Binding}
    (ho : o (nextTicket s r record) record (afterTake s r) =
      .answered .ok (word a) (word b) ((afterTake s r).setBinding t i v)) :
    ∃ u, dispatch k o s = .next u ∧ SameButChoice ((afterAnswer s r record .ok a b).setBinding t i v) u :=
  dispatch_changed h ho (by simp) rfl

/-! ## The binding is placed (R137, steps 13 to 15) -/

section
variable {s : State} {r : RingId} {record : List Byte} (held : Held .tallyBind s r record) {p : PanelId}
  {c : PanelConfig} {t : TallyId} {i : Fin 2} {v : Binding} (valid : v.rect.validFor c = true)
  (placed : tallyBindOwner (nextTicket s r record) record (afterTake s r) = bindPlaced p c t i v (afterTake s r))
include held valid placed

theorem tallyBind_reserved {t' : TallyId} {i' : Fin 2} (hit : clashes s p v.rect t' i')
    (first : ∀ t'' i'', t'' < t' ∨ t'' = t' ∧ i'' < i' → ¬clashes s p v.rect t'' i'') :
    ∃ u, exec .tallyBind s = .next u ∧ SameButChoice (afterAnswer s r record .conflict t'.val i'.val) u := by
  refine dispatch_refused held (placed.trans (bindPlaced_reserved valid (conflictingBinding_some ?_ ?_)))
  · exact (afterTake_clashes ..).2 hit
  · exact fun t'' i'' before => (afterTake_clashes ..).not.2 (first t'' i'' before)

variable (free : ∀ t' i', ¬clashes s p v.rect t' i')
include free

theorem tallyBind_pending {e : Entry} (he : conflictingEntry p v.rect s = some e) :
    ∃ u, exec .tallyBind s = .next u ∧
      SameButChoice (afterAnswer s r record .conflict 16 e.ticket.tag.toNat) u := by
  have unreserved := conflictingBinding_none fun t' i' => (afterTake_clashes s r ..).not.2 (free t' i')
  rw [← afterTake_conflictingEntry s r] at he
  rw [afterAnswer, BitVec.ofNat_toNat, BitVec.setWidth_eq]
  exact dispatch_answered held (by simp) (placed.trans (bindPlaced_pending valid unreserved he))

theorem tallyBind_accepted (apart : ∀ e ∈ s.list p, e.kind = .capture ∨ v.rect.intersects e.rect = false) :
    ∃ u, exec .tallyBind s = .next u ∧
      SameButChoice ((afterAnswer s r record .ok v.rect.w v.rect.h).setBinding t i (some v)) u := by
  have unreserved := conflictingBinding_none fun t' i' => (afterTake_clashes s r ..).not.2 (free t' i')
  have none_pending : conflictingEntry p v.rect (afterTake s r) = none := by
    rw [afterTake_conflictingEntry, conflictingEntry, List.find?_eq_none]
    intro e he
    obtain capture | away := apart e he
    · simp [capture]
    · simp [away]
  exact dispatch_answered_binding held (placed.trans (bindPlaced_accepts valid unreserved none_pending))

end

/-- The field checks passed by a record whose fields are in range. -/
theorem bindFieldPasses_of_inRange {record : List Byte} {w n : Nat} {c : PanelConfig} (wide : w ≤ byteAt record 25)
    (narrow : byteAt record 25 ≤ 40) (foreground : byteAt record 26 ≤ 2 ^ c.depth - 1)
    (background : byteAt record 27 ≤ 2 ^ c.depth - 1) (blank : byteAt record 28 ≤ n - 1)
    (separators : ∀ j, j < min 7 (n - 1) → byteAt record (29 + j) ≤ 2)
    (expiry : byteAt record 37 % 2 = 1 → byteAt record 36 ≤ 3) (f : Nat) : bindFieldPasses record w n c f := by
  unfold bindFieldPasses
  split
  · exact ⟨wide, narrow⟩
  · exact foreground
  · exact background
  · exact blank
  · exact separators
  · exact expiry
  · trivial

/-- Settles O53: the owners' ruling for each check, and the places that the accepted records leave. -/
theorem bindAndUnbindRecords : Obligations.BindAndUnbindRecords := by
  refine ⟨?bind, ?refused, ?unbind⟩
  case bind =>
    intro s r record t i held ht hi
    have ht := idOf_val t ht
    have hi := idOf_val i hi
    refine ⟨fun hd => dispatch_refused held (tallyBindOwner_undefined ht hi hd), fun d hd =>
      ⟨fun b hb => dispatch_refused held (tallyBindOwner_inUse ht hi hd hb), ?_⟩⟩
    intro p c g w h sep n pitch data codes v empty hp hc hg hs hn hpitch wide narrow foreground background blank hcodes
      known expiry hv inWidth inHeight w1 h1
    have passes : ∀ f, bindFieldPasses record w n c f :=
      bindFieldPasses_of_inRange (hpitch ▸ wide) (hpitch ▸ narrow) foreground background blank
        (fun j hj => known _ (hcodes ▸ List.mem_map_of_mem (List.mem_range.2 hj))) expiry
    have rect : bindRect (bindBody record) n sep h = v.rect := by
      rw [bindRect_eq, hv, hpitch, hcodes, length_filter_codes]
    have binding : newBinding p g (bindBody record) n v.rect = v := by
      rw [newBinding_eq hcodes known expiry, hv, hpitch]
    have valid : v.rect.validFor c = true :=
      (Rect.validFor_iff _ _).2 ⟨⟨w1, by rw [hv]; exact h1⟩, inWidth, inHeight⟩
    have placed := tallyBindOwner_placed (k := nextTicket s r record) (r := r) ht hi hd empty (idOf_val p hp) hc
      (idOf_val g hg) hs hn.symm passes
    rw [rect, binding] at placed
    exact ⟨fun t' i' hit first => tallyBind_reserved held valid placed hit first, fun free =>
      ⟨fun e he => tallyBind_pending held valid placed free he,
        fun apart => tallyBind_accepted held valid placed free apart⟩⟩
  case refused =>
    intro s r record held
    refine ⟨fun big => dispatch_refused held (tallyBindOwner_badTally (idOf_big big)), fun t ht => ?_⟩
    have ht := idOf_val t ht
    refine ⟨fun big => dispatch_refused held (tallyBindOwner_badSlot ht (idOf_big big)), fun i d hi hd empty => ?_⟩
    have hi := idOf_val i hi
    refine ⟨fun big => dispatch_refused held (tallyBindOwner_badPanel ht hi hd empty (idOf_big big)), fun p hp => ?_⟩
    have hp := idOf_val p hp
    refine ⟨fun hc => dispatch_refused held (tallyBindOwner_unconfigured ht hi hd empty hp hc), fun c hc =>
      ⟨fun big => dispatch_refused held (tallyBindOwner_badSet ht hi hd empty hp hc (idOf_big big)), fun g hg => ?_⟩⟩
    have hg := idOf_val g hg
    refine ⟨fun hs => dispatch_refused held (tallyBindOwner_emptySet ht hi hd empty hp hc hg hs),
      fun w h sep load l hs => dispatch_refused held (tallyBindOwner_loadingSet ht hi hd empty hp hc hg hs),
      fun w h sep data n hs hn => ⟨fun f b h7 h12 hf hlow entry other => dispatch_refused held
        (tallyBindOwner_badField ht hi hd empty hp hc hg hs hn.symm (bindFieldRefusal_some h7 h12 hf hlow entry other)),
        fun x y width passes _ _ _ hx hy hwidth => ?_⟩⟩
    have placed := tallyBindOwner_placed (k := nextTicket s r record) (r := r) ht hi hd empty hp hc hg hs hn.symm passes
    rw [bindRect_eq, ← hx, ← hy, ← hwidth] at placed
    exact ⟨fun wide => dispatch_refused held (placed.trans (bindPlaced_tooWide wide)),
      fun fits high => dispatch_refused held (placed.trans (bindPlaced_tooHigh fits high))⟩
  case unbind =>
    intro s r record held
    refine ⟨fun big => dispatch_refused held (tallyUnbindOwner_badTally (idOf_big big)), fun t ht => ?_⟩
    have ht := idOf_val t ht
    refine ⟨fun big => dispatch_refused held (tallyUnbindOwner_badSlot ht (idOf_big big)), fun i hi => ?_⟩
    have hi := idOf_val i hi
    exact ⟨fun empty => dispatch_refused held (tallyUnbindOwner_empty ht hi empty),
      fun b hb => dispatch_answered_binding (b := 0) held (tallyUnbindOwner_accepts ht hi hb)⟩

end Sys2Proof.Machine
end

section
/-! PROOFS. A valid setup block (O16): the setup values are the bytes of the block, the timebase goes on, starts or
restarts, and everything else that the end of SETUP sets begins anew. -/

namespace Sys2Proof.Machine

/-! ## The setup values (R190, 11.7.3) -/

theorem byteAt_lt (l : List Byte) (i : Nat) : byteAt l i < 256 := (l.getD i 0).isLt

theorem fieldAt_lt (l : List Byte) : ∀ n off : Nat, fieldAt l off n < 256 ^ n
  | 0, _ => Nat.one_pos
  | n + 1, off => by
    have first := byteAt_lt l off
    have rest := fieldAt_lt l n (off + 1)
    rw [fieldAt, pow_succ]
    omega

/-- A base address takes its whole field. -/
theorem toNat_ofNat_field64 (l : List Byte) (off : Nat) : (BitVec.ofNat 64 (field64 l off)).toNat = field64 l off := by
  have inRange : field64 l off < 2 ^ 64 := fieldAt_lt l 8 off
  rw [BitVec.toNat_ofNat, Nat.mod_eq_of_lt inRange]

section
variable {s : State} {b : List Byte} (h : s.dev.setup = some (setupValuesOf b))
include h

theorem ringBase_of_setup : s.ringBase .u = field64 b 0 ∧ s.ringBase .b = field64 b 8 := by
  simp [State.ringBase, h, setupValuesOf, toNat_ofNat_field64, -BitVec.toNat_ofNat]

theorem ringSize_of_setup : s.ringSize .u = field16 b 24 ∧ s.ringSize .b = field16 b 26 := by
  simp [State.ringSize, h, setupValuesOf]

theorem completionRing_of_setup : s.completionBase = field64 b 16 ∧ s.completionSize = field16 b 28 := by
  simp [State.completionBase, State.completionSize, h, setupValuesOf, toNat_ofNat_field64, -BitVec.toNat_ofNat]

theorem limits_of_setup : s.starvationLimit = byteAt b 31 ∧ s.burstTimeoutUs = field16 b 32 := by
  simp [State.starvationLimit, State.burstTimeoutUs, h, setupValuesOf]

end

/-! ## The timebase at a setup load (R147, R149) -/

/-- A timebase that runs at the block's REF_MHZ goes on, and nothing is changed. -/
theorem loadTimebase_of_same {n : Nat} {s : State} (running : s.tb.running = true) (same : s.tb.refMhz = some n) :
    loadTimebase n s = s := by
  simp [loadTimebase, Timebase.restarts, Timebase.load, running, same, State.setTb]

/-- A restart makes the epoch of every group 0. -/
theorem loadTimebase_group_of_restart {n : Nat} {s : State} (running : s.tb.running = true)
    (other : s.tb.refMhz ≠ some n) (g : Fin 4) : (loadTimebase n s).group g = { s.group g with epoch := 0 } := by
  simp [loadTimebase, Timebase.restarts, running, other, State.group, clearEpochs]

/-- A start and a restart make every line's accepted level its raw level. -/
theorem loadTimebase_cin_of_begins {n : Nat} {s : State} (begins : s.tb.running = false ∨ s.tb.refMhz ≠ some n)
    (i : LineId) : (loadTimebase n s).cin i = (s.cin i).settle := by
  have begins : ¬(s.tb.running = true ∧ s.tb.refMhz = some n) := by
    rintro ⟨running, same⟩
    simp [running, same] at begins
  rw [loadTimebase, if_neg begins]
  cases s.tb.restarts n <;> simp [settleLines, State.cin]

/-! ## What the end of SETUP sets (R159, R175, R191) -/

section
variable (v : SetupValues) (s : State)

theorem applySetup_dev : (applySetup v s).dev =
    { s.dev with setup := some v, state := if s.dev.enable then .active else .paused } := by
  simp [applySetup]

theorem applySetup_ring (r : RingId) : (applySetup v s).ring r = Ring.reset := by
  cases r <;> simp [applySetup, State.ring]

theorem applySetup_passOver : (applySetup v s).passOver = 0 := by
  simp [applySetup]

theorem applySetup_cpo : (applySetup v s).cpo = { Poster.reset with phase := true } := by
  simp [applySetup]

theorem applySetup_tb : (applySetup v s).tb = s.tb.load v.refMhz := rfl

variable {v s}

theorem applySetup_of_same (running : s.tb.running = true) (same : s.tb.refMhz = some v.refMhz) :
    (applySetup v s).cins = s.cins ∧ (applySetup v s).groups = s.groups := by
  unfold applySetup
  rw [loadTimebase_of_same (by simpa using running) (by simpa using same)]
  simp

theorem applySetup_group_of_restart (running : s.tb.running = true) (other : s.tb.refMhz ≠ some v.refMhz) (g : Fin 4) :
    (applySetup v s).group g = { s.group g with epoch := 0 } := by
  unfold applySetup
  rw [loadTimebase_group_of_restart (by simpa using running) (by simpa using other)]
  simp

theorem applySetup_cin_of_begins (begins : s.tb.running = false ∨ s.tb.refMhz ≠ some v.refMhz) (i : LineId) :
    (applySetup v s).cin i = (s.cin i).settle := by
  unfold applySetup
  rw [loadTimebase_cin_of_begins (by simpa using begins)]
  simp

end

/-- The answer with a valid block frees the bus, and the setup takes effect (R189, R191). -/
theorem exec_setupReadEnd_valid {s : State} {f : Flight} {b : List Byte} (inSetup : s.dev.state = .setup)
    (unrequested : s.dev.softResetRequested = false) (flying : s.flight = some f) (reading : f.requester = .setup)
    (whole : b.length = 64) (valid : setupFailing b = none) :
    exec (.setupReadEnd (.ok b)) s = finish (applySetup (setupValuesOf b) (freeBus s)) := by
  have inFlight : s.setupInFlight = true := by simp [State.setupInFlight, inSetup, flying, reading]
  have ends : setupReadEnds (.ok b) (freeBus s) = applySetup (setupValuesOf b) (freeBus s) := by
    simp [setupReadEnds, unrequested, valid]
  calc exec (.setupReadEnd (.ok b)) s
      = execSetupReadEnd (.ok b) s := rfl
    _ = finish (setupReadEnds (.ok b) (freeBus s)) := by simp [execSetupReadEnd, inFlight, blockComplete, whole]
    _ = finish (applySetup (setupValuesOf b) (freeBus s)) := by rw [ends]

/-- A completion ring begun anew is so after CPo's choice (R175). -/
theorem SameButChoice.begun_cpo {s t : State} (h : SameButChoice s t)
    (begun : s.cpo = { Poster.reset with phase := true }) :
    t.cpo.post = 0 ∧ t.cpo.release = 0 ∧ t.cpo.phase = true ∧ t.cpo.reserved = 0 ∧ t.cpo.queue = [] := by
  obtain ⟨_, _, _, rfl⟩ := h.exists_eq
  simp [begun, Poster.reset]

/-- Settles O16: the end of the setup read is `applySetup` and CPo's choice, which leaves all that is spoken of. -/
theorem validSetupTakesEffect : Obligations.ValidSetupTakesEffect := by
  intro s f b inSetup unrequested flying reading whole valid
  rw [exec_setupReadEnd_valid inSetup unrequested flying reading whole valid]
  obtain ⟨t, ht, only⟩ := finish_next (applySetup (setupValuesOf b) (freeBus s))
  have dev := only.dev_eq.trans (applySetup_dev _ _)
  have setup : t.dev.setup = some (setupValuesOf b) := by rw [dev]
  obtain ⟨baseU, baseB⟩ := ringBase_of_setup setup
  obtain ⟨sizeU, sizeB⟩ := ringSize_of_setup setup
  obtain ⟨completionBase, completionSize⟩ := completionRing_of_setup setup
  obtain ⟨starvation, timeout⟩ := limits_of_setup setup
  have rings := fun r => (only.ring_eq r).trans (applySetup_ring _ _ r)
  obtain ⟨post, release, phase, reserved, queue⟩ := only.begun_cpo (applySetup_cpo _ _)
  refine ⟨t, ht, by rw [dev]; rfl, baseU, baseB, completionBase, sizeU, sizeB, completionSize, starvation, timeout,
    rings, ?passOver, post, release, phase, reserved, queue, ?tb, ?restart, ?begins, ?goesOn, ?frame⟩
  all_goals obtain ⟨_, _, _, rfl⟩ := only.exists_eq
  case passOver => exact applySetup_passOver _ _
  case tb => exact applySetup_tb _ _
  case restart => exact applySetup_group_of_restart (v := setupValuesOf b) (s := freeBus s)
  case begins => exact applySetup_cin_of_begins (v := setupValuesOf b) (s := freeBus s)
  case goesOn => exact applySetup_of_same (v := setupValuesOf b) (s := freeBus s)
  case frame => simp

end Sys2Proof.Machine
end

section
/-! PROOFS. BLINK_GROUP, BLINK_ZONE and COUNT_INPUT (O59): the owners' rulings, one for each check, and what the
accepted records write. -/

namespace Sys2Proof.Machine

@[simp] theorem afterTake_zone (s : State) (r : RingId) (z : Fin 16) : (afterTake s r).zone z = s.zone z := by
  simp [State.zone]

@[simp] theorem afterTake_cin (s : State) (r : RingId) (n : LineId) : (afterTake s r).cin n = s.cin n := by
  simp [State.cin]

/-! ## The owner's rulings on a BLINK_GROUP (R155) -/

section
variable {k : Ticket} {record : List Byte} {s : State}

theorem blinkGroupOwner_badGroup (h : 3 < byteAt record 16) :
    blinkGroupOwner k record s = refuse .refusedParam 1 0 s := by
  simp [blinkGroupOwner, idOf_big (n := 4) h]

variable {g : Fin 4} (hg : byteAt record 16 = g.val)
include hg

theorem blinkGroupOwner_badPeriod (h : field16 record 18 < 2 ∨ 500 < field16 record 18) :
    blinkGroupOwner k record s = refuse .refusedParam 2 0 s := by
  have outside : (decide (field16 record 18 < 2) || decide (500 < field16 record 18)) = true := by simpa using h
  simp only [blinkGroupOwner, idOf_val g hg, if_pos outside]

variable (long : 2 ≤ field16 record 18) (short : field16 record 18 ≤ 500)
include long short

theorem blinkGroupOwner_badDuty (h25 : byteAt record 20 ≠ 25) (h50 : byteAt record 20 ≠ 50)
    (h75 : byteAt record 20 ≠ 75) : blinkGroupOwner k record s = refuse .refusedParam 3 0 s := by
  simp [blinkGroupOwner, idOf_val g hg, Nat.not_lt.2 long, Nat.not_lt.2 short, h25, h50, h75]

theorem blinkGroupOwner_accepts (h : byteAt record 20 = 25 ∨ byteAt record 20 = 50 ∨ byteAt record 20 = 75) :
    blinkGroupOwner k record s =
      .answered .ok 0 0 (s.setGroup g { period := field16 record 18, duty := byteAt record 20, epoch := s.tb.ms }) := by
  have known : (byteAt record 20 == 25 || byteAt record 20 == 50 || byteAt record 20 == 75) = true := by
    simpa [or_assoc] using h
  simp [blinkGroupOwner, idOf_val g hg, Nat.not_lt.2 long, Nat.not_lt.2 short, -Bool.not_or, known]

end

/-! ## The owner's rulings on a BLINK_ZONE (R158) -/

section
variable {record : List Byte} {s : State} {z : Fin 16}

theorem zoneSet_badPanel (h : 3 < byteAt record 18) : zoneSet z record s = refuse .refusedParam 3 0 s := by
  simp [zoneSet, idOf_big (n := 4) h]

variable {p : PanelId} (hp : byteAt record 18 = p.val)
include hp

theorem zoneSet_unconfigured (hc : (s.port p).config = none) : zoneSet z record s = refuse .refusedParam 3 0 s := by
  simp [zoneSet, idOf_val p hp, hc]

variable {c : PanelConfig} (hc : (s.port p).config = some c)
include hc

theorem zoneSet_badRect (h : (rectAt record 20).validFor c = false) :
    zoneSet z record s = refuse .refusedParam 4 0 s := by
  simp [zoneSet, idOf_val p hp, hc, h]

variable (valid : (rectAt record 20).validFor c = true)
include valid

theorem zoneSet_badGroup (h : 3 < byteAt record 28) : zoneSet z record s = refuse .refusedParam 5 0 s := by
  simp [zoneSet, idOf_val p hp, hc, valid, idOf_big (n := 4) h]

theorem zoneSet_accepts {g : Fin 4} (hg : byteAt record 28 = g.val) :
    zoneSet z record s = zoneAnswer z (some { panel := p, rect := rectAt record 20, group := g }) s := by
  simp [zoneSet, idOf_val p hp, hc, valid, idOf_val g hg]

end

section
variable {k : Ticket} {record : List Byte} {s : State}

theorem blinkZoneOwner_badPlace (h : 15 < byteAt record 16) :
    blinkZoneOwner k record s = refuse .refusedParam 1 0 s := by
  simp [blinkZoneOwner, idOf_big (n := 16) h]

variable {z : Fin 16} (hz : byteAt record 16 = z.val)
include hz

theorem blinkZoneOwner_badOperation (h : 1 < byteAt record 17) :
    blinkZoneOwner k record s = refuse .refusedParam 2 0 s := by
  simp [blinkZoneOwner, idOf_val z hz, (Nat.zero_lt_of_lt h).ne', h.ne']

theorem blinkZoneOwner_clear (h : byteAt record 17 = 0) : blinkZoneOwner k record s = zoneAnswer z none s := by
  simp [blinkZoneOwner, idOf_val z hz, h]

theorem blinkZoneOwner_set (h : byteAt record 17 = 1) : blinkZoneOwner k record s = zoneSet z record s := by
  simp [blinkZoneOwner, idOf_val z hz, h]

end

/-- A detail that is a flag. -/
theorem word_ite (c : Prop) [Decidable c] : word (if c then 1 else 0) = if c then 1 else 0 := by
  split <;> rfl

/-- The completion says whether the place held a zone, and the place is written (R158). -/
theorem dispatch_zoneAnswer {k : Kind} {o : RecordOwner} {s : State} {r : RingId} {record : List Byte}
    (h : Held k s r record) {z : Fin 16} {v : Option Zone} {was : Nat} (hwas : was = if (s.zone z).isSome then 1 else 0)
    (ho : o (nextTicket s r record) record (afterTake s r) = zoneAnswer z v (afterTake s r)) :
    ∃ t, dispatch k o s = .next t ∧ SameButChoice ((afterAnswer s r record .ok was 0).setZone z v) t := by
  have detail : (if ((afterTake s r).zone z).isSome then 1 else 0 : Word) = word was := by
    rw [afterTake_zone, hwas, word_ite]
  rw [zoneAnswer, detail] at ho
  exact dispatch_changed h ho (by simp) rfl

/-! ## The owner's rulings on a COUNT_INPUT (R152) -/

theorem edgeOf_eq_none {n : Nat} (h : 2 < n) : edgeOf n = none := by
  unfold edgeOf
  split
  case h_4 => rfl
  all_goals omega

theorem edgeOf_eq_some {n : Nat} (h : n ≤ 2) :
    edgeOf n = some (if n = 0 then .rise else if n = 1 then .fall else .both) := by
  interval_cases n <;> rfl

section
variable {k : Ticket} {record : List Byte} {s : State}

theorem countInputOwner_badLine (h : 7 < byteAt record 16) :
    countInputOwner k record s = refuse .refusedParam 1 0 s := by
  simp [countInputOwner, idOf_big (n := 8) h]

variable {n : LineId} (hn : byteAt record 16 = n.val)
include hn

theorem countInputOwner_badEdge (h : 2 < byteAt record 17) :
    countInputOwner k record s = refuse .refusedParam 2 0 s := by
  simp [countInputOwner, idOf_val n hn, edgeOf_eq_none h]

variable (known : byteAt record 17 ≤ 2)
include known

theorem countInputOwner_badFilter (h : 15 < byteAt record 18) :
    countInputOwner k record s = refuse .refusedParam 3 0 s := by
  simp [countInputOwner, idOf_val n hn, edgeOf_eq_some known, h]

theorem countInputOwner_accepts (h : byteAt record 18 ≤ 15) :
    countInputOwner k record s = .answered .ok (word (if (s.cin n).raw then 1 else 0)) 0 (s.setCin n {
      raw := (s.cin n).raw
      edge := if byteAt record 17 = 0 then .rise else if byteAt record 17 = 1 then .fall else .both
      filter := byteAt record 18, accepted := some (s.cin n).raw, hold := 0 }) := by
  simp [countInputOwner, idOf_val n hn, edgeOf_eq_some known, Nat.not_lt.2 h, CountInput.settle, word_ite]

end

/-- Settles O59: the owners' ruling for each check, and what each accepted record writes. -/
theorem blinkAndCountInputRecords : Obligations.BlinkAndCountInputRecords := by
  refine ⟨?group, ?zone, ?line⟩
  case group =>
    intro s r record held
    refine ⟨fun big => dispatch_refused held (blinkGroupOwner_badGroup big), fun g hg =>
      ⟨fun outside => dispatch_refused held (blinkGroupOwner_badPeriod hg outside), fun long short =>
        ⟨fun h25 h50 h75 => dispatch_refused held (blinkGroupOwner_badDuty hg long short h25 h50 h75), fun duty => ?_⟩⟩⟩
    have accepted := blinkGroupOwner_accepts (k := nextTicket s r record) (s := afterTake s r) hg long short duty
    exact dispatch_changed held accepted (by simp) (by simp; rfl)
  case zone =>
    intro s r record held
    refine ⟨fun big => dispatch_refused held (blinkZoneOwner_badPlace big), fun z was hz hwas =>
      ⟨fun big => dispatch_refused held (blinkZoneOwner_badOperation hz big),
        fun clear => dispatch_zoneAnswer held hwas (blinkZoneOwner_clear hz clear), fun set => ?_⟩⟩
    have ruling := blinkZoneOwner_set (k := nextTicket s r record) (s := afterTake s r) hz set
    refine ⟨?_, fun p c q hp hc hq => ?_⟩
    · rintro (big | ⟨p, hp, hc⟩)
      · exact dispatch_refused held (ruling.trans (zoneSet_badPanel big))
      · exact dispatch_refused held (ruling.trans (zoneSet_unconfigured hp (by simpa using hc)))
    · subst hq
      rw [← afterTake_port s r p] at hc
      refine ⟨fun outside => dispatch_refused held (ruling.trans (zoneSet_badRect hp hc ?_)),
        fun w1 h1 inWidth inHeight => ?_⟩
      · rw [← Bool.not_eq_true, Rect.validFor_iff, and_assoc]
        exact outside
      · have valid := (Rect.validFor_iff _ c).2 ⟨⟨w1, h1⟩, inWidth, inHeight⟩
        exact ⟨fun big => dispatch_refused held (ruling.trans (zoneSet_badGroup hp hc valid big)),
          fun g hg => dispatch_zoneAnswer held hwas (ruling.trans (zoneSet_accepts hp hc valid hg))⟩
  case line =>
    intro s r record held
    refine ⟨fun big => dispatch_refused held (countInputOwner_badLine big), fun n hn =>
      ⟨fun big => dispatch_refused held (countInputOwner_badEdge hn big),
        fun known big => dispatch_refused held (countInputOwner_badFilter hn known big), fun known small => ?_⟩⟩
    rw [← afterTake_cin s r n]
    exact dispatch_changed held (countInputOwner_accepts hn known small) (by simp) rfl

end Sys2Proof.Machine
end

section
/-! PROOFS. The submission rings: tail writes (O18), the ends of record reads (O19), and the arbiter's choice (O20). -/

namespace Sys2Proof.Machine

/-! ## The arbiter (R163, R166) -/

/-- A ring is able in ACTIVE, when it is RUNNING and holds a record for whose completion a place is left (R163). -/
theorem ringAble_iff {s : State} {r : RingId} :
    ringAble s r = true ↔ s.dev.state = .active ∧ (s.ring r).state = .running ∧ (s.ring r).holder.isSome ∧
      s.cpo.reserved + s.eventLoad < s.freePlaces := by
  simp [ringAble, and_assoc]

/-- Settles O20: by which rings are able, and with both able by the pass-over count. -/
theorem arbiterChoice : Obligations.ArbiterChoice := by
  refine ⟨fun _ _ => ringAble_iff, fun s => ⟨fun u b => ?onlyU, fun u b => ?onlyB, fun u b below => ?bothBelow,
    fun u b atLimit => ?bothAtLimit, fun u b => ?neither⟩⟩
  case onlyU => simp [chosenRing, countAfter, u, b]
  case onlyB => simp [chosenRing, countAfter, u, b]
  case bothBelow => simp [chosenRing, countAfter, u, b, below]
  case bothAtLimit => simp [chosenRing, countAfter, u, b, atLimit]
  case neither => simp [chosenRing, u, b]

/-! ## Ring faults (R162) -/

theorem faultRing_eq (s : State) (r : RingId) (c : RingCause) : faultRing r c s = withRingFault s r c := by
  cases r <;> rfl

/-! ## Tail writes (R160) -/

theorem RingState.emptied_of_ne_fault {g : RingState} (h : g ≠ .fault) : g.emptied = .running := by
  cases g with
  | running => rfl
  | stalled need => rfl
  | fault => exact absurd rfl h

theorem writeTail_ignored {s : State} {r : RingId} {v : Nat}
    (h : ¬(s.takesIndices = true ∧ (s.ring r).state ≠ .fault)) : writeTail r v s = s := if_neg h

section
variable {s : State} {r : RingId} {v : Nat} (taken : s.takesIndices = true) (notFault : (s.ring r).state ≠ .fault)
include taken notFault

theorem writeTail_bad (big : s.ringSize r ≤ v) : writeTail r v s = withRingFault s r .badTail := by
  rw [writeTail, if_pos ⟨taken, notFault⟩, if_pos big, faultRing_eq]

theorem writeTail_moves (small : v < s.ringSize r) (pending : (s.ring r).head ≠ v) :
    writeTail r v s = s.setRing r { s.ring r with tail := v } := by
  rw [writeTail, if_pos ⟨taken, notFault⟩, if_neg (Nat.not_le.2 small), Ring.withTail, if_neg pending]

theorem writeTail_empties (small : v < s.ringSize r) (empty : (s.ring r).head = v) :
    writeTail r v s = s.setRing r { s.ring r with tail := v, holder := none, state := .running } := by
  rw [writeTail, if_pos ⟨taken, notFault⟩, if_neg (Nat.not_le.2 small), Ring.withTail, if_pos empty,
    RingState.emptied_of_ne_fault notFault]

end

/-- Settles O18: the write at RT, by the device's state, the ring's state and the value. -/
theorem tailWrites : Obligations.TailWrites := by
  intro r v s
  obtain ⟨t, e, ht⟩ := finish_next (writeTail r v.toNat s)
  refine ⟨t, e, fun ignored => ?_, fun heard notFault =>
    ⟨fun big => ?_, fun small pending => ?_, fun small empty => ?_⟩⟩
  · rwa [writeTail_ignored] at ht
    rw [takesIndices_iff]
    tauto
  all_goals have taken := takesIndices_iff.2 heard
  · rwa [writeTail_bad taken notFault big] at ht
  · rwa [writeTail_moves taken notFault small pending] at ht
  · rwa [writeTail_empties taken notFault small empty] at ht

/-! ## The ends of record reads (R161, R173) -/

@[simp] theorem withBusFree_dev (s : State) : (withBusFree s).dev = s.dev := rfl

@[simp] theorem withBusFree_ring (s : State) (r : RingId) : (withBusFree s).ring r = s.ring r := freeBus_ring s r

/-- The outcome of a record read counts: in a state that knows the ring, which is not in RING_FAULT and not empty
(R161). -/
def State.readCounts (s : State) (r : RingId) : Prop :=
  (s.dev.state = .active ∨ s.dev.state = .paused ∨ s.dev.state = .qfault) ∧ (s.ring r).state ≠ .fault ∧
    (s.ring r).head ≠ (s.ring r).tail

theorem withBusFree_readCounts {s : State} {r : RingId} : (withBusFree s).readCounts r ↔ s.readCounts r := by
  simp [State.readCounts]

/-- Every outcome that does not count is discarded. -/
theorem ringReadEnds_discarded {s : State} {r : RingId} (h : ¬s.readCounts r) (a : ReadEnd) :
    ringReadEnds r a s = s := by
  rw [State.readCounts, ← takesIndices_iff] at h
  simp only [ringReadEnds]
  split
  · exact if_pos (by tauto)
  · rfl

section
variable {s : State} {r : RingId} (counts : s.readCounts r)
include counts

theorem ringReadEnds_ok (data : List Byte) :
    ringReadEnds r (.ok data) s = s.setRing r { s.ring r with holder := some data } := by
  obtain ⟨known, notFault, pending⟩ := counts
  simp [ringReadEnds, takesIndices_iff.2 known, notFault, pending]

/-- A failure that counts faults the ring, with the cause that names it (R162). -/
theorem ringReadEnds_failed {a : ReadEnd} {c : RingCause}
    (failed : a = .busError ∧ c = .readError ∨ a = .timeout ∧ c = .readTimeout) :
    ringReadEnds r a s = withRingFault s r c := by
  obtain ⟨known, notFault, pending⟩ := counts
  obtain ⟨rfl, rfl⟩ | ⟨rfl, rfl⟩ := failed <;>
    simp [ringReadEnds, takesIndices_iff.2 known, notFault, pending, faultRing_eq]

end

/-- An answer that may end the read ends it at RT, with the bus free (R73). -/
theorem ringReadEnd_next {s : State} {f : Flight} {r : RingId} {a : ReadEnd} (flying : s.flight = some f)
    (reading : f.requester = .ring r) (may : readMayEnd a f s = true) :
    ∃ t, exec (.ringReadEnd a) s = .next t ∧ SameButChoice (ringReadEnds r a (withBusFree s)) t := by
  have e : exec (.ringReadEnd a) s = finish (ringReadEnds r a (withBusFree s)) := by
    simp only [exec, execRingReadEnd, flying, reading, may, if_true]
    rfl
  rw [e]
  exact finish_next _

/-- Settles O19: an outcome that counts fills the holder or faults the ring, and any other is discarded. -/
theorem ringReadEndsFillOrFaultOrDiscard : Obligations.RingReadEnds := by
  intro s f r flying reading isRead
  refine ⟨fun data whole => ?ok, fun a c outcome => ?failed⟩
  case ok =>
    obtain ⟨t, e, ht⟩ := ringReadEnd_next (a := .ok data) flying reading (by simp [readMayEnd, isRead, whole])
    refine ⟨t, e, ?_⟩
    split
    · next counts => rwa [ringReadEnds_ok (withBusFree_readCounts.2 counts), withBusFree_ring] at ht
    · next not => rwa [ringReadEnds_discarded (mt withBusFree_readCounts.1 not)] at ht
  case failed =>
    have may : readMayEnd a f s = true := by
      obtain ⟨rfl, -⟩ | ⟨rfl, -, due⟩ := outcome
      · rfl
      · exact decide_eq_true due
    have failed : a = .busError ∧ c = .readError ∨ a = .timeout ∧ c = .readTimeout := by tauto
    obtain ⟨t, e, ht⟩ := ringReadEnd_next flying reading may
    refine ⟨t, e, ?_⟩
    split
    · next counts => rwa [ringReadEnds_failed (withBusFree_readCounts.2 counts) failed] at ht
    · next not => rwa [ringReadEnds_discarded (mt withBusFree_readCounts.1 not)] at ht

end Sys2Proof.Machine
end

section
/-! PROOFS. The records that RT owns: NOP, an unknown kind and the header check of every other kind (O21), and SYNC with
the answers to the SYNCs that wait (O22). -/

namespace Sys2Proof.Machine

/-! ## The header checks (R165) -/

/-- Every known kind has an owner, to which its command dispatches the held record. -/
theorem exec_command (k : Kind) : ∃ owner, ∀ s, exec k.command s = dispatch k owner s := by
  cases k <;> exact ⟨_, fun _ => rfl⟩

/-- In ACTIVE the completion of the record just taken is requested, and nothing else happens. -/
theorem answer_afterTake {s : State} {r : RingId} (h : chosenRing s = some r) (record : List Byte) (x : Status)
    (a b : Nat) :
    answer (nextTicket s r record) x (word a) (word b) (afterTake s r) = afterAnswer s r record x a b :=
  answer_writing (afterTake_writing h) _ _ _ _

section
variable {s : State} {r : RingId} {record : List Byte} (chosen : chosenRing s = some r)
  (held : (s.ring r).holder = some record)
include chosen held

/-- A record whose reserved header area is not zero is taken and refused, whoever its owner is. -/
theorem dispatch_badHeader {k : Kind} (owner : RecordOwner) (kind : recordKind record = some k)
    (bad : headerClear record = false) :
    ∃ t, dispatch k owner s = .next t ∧ SameButChoice (afterAnswer s r record .refusedParam 0 0) t := by
  have refused : dispatchHeld owner r record s = afterAnswer s r record .refusedParam 0 0 := by
    rw [← answer_afterTake chosen, ← afterTake_eq]
    simp only [dispatchHeld, bad, Bool.false_eq_true, if_false]
    rfl
  have e : dispatch k owner s = finish (dispatchHeld owner r record s) := by
    simp only [dispatch, chosen, held, kind, if_true]
  rw [e, refused]
  exact finish_next _

/-- A record whose kind names no command is taken and answered, its reserved header area unseen. -/
theorem execUnknownKind_next (kind : recordKind record = none) :
    ∃ t, exec .unknownKind s = .next t ∧
      SameButChoice (afterAnswer s r record .unknownKind (field16 record 0) 0) t := by
  have e : exec .unknownKind s = finish (afterAnswer s r record .unknownKind (field16 record 0) 0) := by
    rw [← answer_afterTake chosen, ← afterTake_eq]
    simp only [exec, execUnknownKind, chosen, held, kind, if_true]
    rfl
  rw [e]
  exact finish_next _

end

/-- Settles O21: NOP by its owner's ruling, the other two before an owner is asked. -/
theorem nopUnknownKindAndReservedHeader : Obligations.NopUnknownKindAndReservedHeader := by
  refine ⟨⟨fun s r record held => dispatch_refused held rfl,
    fun s r record chosen held kind => execUnknownKind_next chosen held kind⟩,
    fun k s r record chosen held kind bad => ?_⟩
  obtain ⟨owner, e⟩ := exec_command k
  rw [e]
  exact dispatch_badHeader chosen held owner kind bad

/-! ## The answers to waiting SYNCs (R171) -/

@[simp] theorem State.setSyncs_ring (s : State) (r : RingId) (l : List WaitingSync) :
    (s.setSyncs r l).ring r = { s.ring r with syncs := l } := by simp [State.setSyncs]

theorem State.setSyncs_ring_of_ne (s : State) (l : List WaitingSync) {r q : RingId} (h : q ≠ r) :
    (s.setSyncs r l).ring q = s.ring q := s.setRing_ring_of_ne _ h.symm

theorem State.setSyncs_self {s : State} {r : RingId} {l : List WaitingSync} (h : (s.ring r).syncs = l) :
    s.setSyncs r l = s := by
  subst h
  cases r <;> rfl

@[simp] theorem enqueue_ring (c : Completion) (s : State) (r : RingId) : (enqueue c s).ring r = s.ring r := by
  cases r <;> rfl

theorem enqueue_setSyncs_setSyncs (c : Completion) (s : State) (r : RingId) (l l' : List WaitingSync) :
    (enqueue c (s.setSyncs r l)).setSyncs r l' = (enqueue c s).setSyncs r l' := by
  cases r <;> rfl

theorem deliver_writing {s : State} (h : s.writing = true) (c : Completion) : deliver c s = enqueue c s := by
  obtain h | h := writing_iff.1 h <;> simp only [deliver, h]

/-- While the oldest SYNC has a lower take number in front of it, none is answered. -/
theorem answerSyncs_waits {r : RingId} {s : State} : ∀ {l : List WaitingSync},
    (∀ y ∈ l.head?, (s.ring r).outstanding.head? ≠ some y.ticket.take) → answerSyncs r l s = s.setSyncs r l
  | [], _ => rfl
  | y :: _, h => if_neg (h y rfl)

/-- A SYNC whose own number is the first outstanding is answered, and no other is while the next one's is not. -/
theorem answerSyncs_due {r : RingId} {s : State} {y : WaitingSync} {l : List WaitingSync} (w : s.writing = true)
    (due : (s.ring r).outstanding.head? = some y.ticket.take)
    (waits : ∀ z ∈ l.head?, z.ticket.take ≠ y.ticket.take) :
    answerSyncs r (y :: l) s = (enqueue y.completion s).setSyncs r l := by
  rw [answerSyncs, if_pos due, deliver_writing w]
  refine answerSyncs_waits fun z hz e => waits z hz ?_
  rw [enqueue_ring, due] at e
  exact (Option.some.inj e).symm

/-- While requests are kept, the answers to SYNCs join the request queue, and the ring's SYNCs become fewer. -/
theorem answerSyncs_writing (r : RingId) (l : List WaitingSync) {s : State} (w : s.writing = true) :
    ∃ answers waiting, answerSyncs r l s =
      (s.setCpo { s.cpo with queue := s.cpo.queue ++ answers }).setSyncs r waiting := by
  induction l generalizing s with
  | nil => exact ⟨[], [], by simp [answerSyncs, State.setCpo]⟩
  | cons y l ih =>
    rw [answerSyncs]
    split
    · rw [deliver_writing w]
      obtain ⟨answers, waiting, e⟩ := ih (s := enqueue y.completion s) ((writing_congr (by simp)).trans w)
      exact ⟨y.completion :: answers, waiting, by rw [e]; simp [enqueue, State.setCpo]⟩
    · exact ⟨[], y :: l, by simp [State.setCpo]⟩

/-! ## SYNC (R171) -/

/-- The SYNC just taken joins the ring's waiting ones, and those due are answered. -/
def syncJoined (s : State) (r : RingId) (record : List Byte) : State :=
  (afterTake s r).setSyncs r ((s.ring r).syncs ++
    [{ ticket := nextTicket s r record, earlier := (s.ring r).outstanding.length }])

@[simp] theorem afterTake_ring (s : State) (r : RingId) : (afterTake s r).ring r =
    { s.ring r with
      head := ((s.ring r).head + 1) % s.ringSize r, holder := none, take := (s.ring r).take + 1
      outstanding := (s.ring r).outstanding ++ [(s.ring r).take + 1] } := by
  cases r <;> rfl

theorem syncOwner_eq (s : State) (r : RingId) (record : List Byte) :
    syncOwner (nextTicket s r record) record (afterTake s r) = .accepted (settleSyncs r (syncJoined s r record)) := by
  simp [syncOwner, nextTicket, syncJoined]

theorem syncJoined_syncs (s : State) (r : RingId) (record : List Byte) :
    ((syncJoined s r record).ring r).syncs =
      (s.ring r).syncs ++ [{ ticket := nextTicket s r record, earlier := (s.ring r).outstanding.length }] := by
  simp [syncJoined]

theorem SameButChoice.of_eq {s s' t : State} (h : SameButChoice s t) (e : s = s') : SameButChoice s' t := e ▸ h

/-- Settles O22: what the SYNC's own number, which joins the outstanding set last, has in front of it. -/
theorem syncWaitsForEarlierRecords : Obligations.SyncWaitsForEarlierRecords := by
  intro s r record held
  have w : (syncJoined s r record).writing = true :=
    (writing_congr (by simp [syncJoined])).trans (afterTake_writing held.chosen)
  obtain ⟨t, e, ht⟩ := dispatch_accepted held (syncOwner_eq s r record)
  refine ⟨fun noEarlier noSyncs => ⟨t, e, ht.of_eq ?answered⟩, fun earlier notDue other => ⟨t, e, ht.of_eq ?waits⟩⟩
  case answered =>
    rw [settleSyncs, syncJoined_syncs, noSyncs, noEarlier, List.nil_append,
      answerSyncs_due w (by simp [syncJoined, noEarlier, nextTicket]) (by simp), syncJoined, enqueue_setSyncs_setSyncs,
      State.setSyncs_self (by simp [noSyncs])]
    rfl
  case waits =>
    have front : ((syncJoined s r record).ring r).outstanding.head? = (s.ring r).outstanding.head? := by
      simp [syncJoined, List.head?_append_of_ne_nil _ earlier]
    refine (answerSyncs_waits fun y hy => ?_).trans (State.setSyncs_self rfl)
    rw [front]
    rw [syncJoined_syncs] at hy
    cases hs : (s.ring r).syncs with
    | nil =>
      obtain rfl : _ = y := by simpa [hs] using hy
      exact fun h => other _ h rfl
    | cons z l =>
      obtain rfl : z = y := by simpa [hs] using hy
      simpa [syncDue, hs] using notDue

end Sys2Proof.Machine
end

section
/-! PROOFS. The end of a written record (O27): post and phase in every state, and in ACTIVE and PAUSED the reservation,
the outstanding set and the SYNC that a completion answers. -/

namespace Sys2Proof.Machine

/-! ## Where the next record is written (R174, R179) -/

/-- Where and in what phase CPo writes the next record, and what the host has released (R175). -/
def Poster.place (c : Poster) : Nat × Nat × Bool := (c.post, c.release, c.phase)

theorem dropTicket_place (t : Ticket) (s : State) : (dropTicket t s).cpo.place = s.cpo.place := by
  simp [dropTicket, Poster.place]

theorem deliver_place (c : Completion) (s : State) : (deliver c s).cpo.place = s.cpo.place := by
  unfold deliver
  split
  · rfl
  · rfl
  · exact dropTicket_place _ _
  all_goals rfl

theorem answerSyncs_place (r : RingId) (l : List WaitingSync) (s : State) :
    (answerSyncs r l s).cpo.place = s.cpo.place := by
  induction l generalizing s with
  | nil => simp [answerSyncs]
  | cons y l ih =>
    rw [answerSyncs]
    split
    · rw [ih, deliver_place]
    · simp

theorem settleSyncs_place (r : RingId) (s : State) : (settleSyncs r s).cpo.place = s.cpo.place :=
  answerSyncs_place _ _ _

@[simp] theorem advancePost_cpo (s : State) : (advancePost s).cpo =
    { s.cpo with
      post := (s.cpo.post + 1) % s.completionSize
      phase := if (s.cpo.post + 1) % s.completionSize = 0 then !s.cpo.phase else s.cpo.phase } := rfl

/-- Whatever was written, post moves on, and the phase flips where post wraps to 0 (R179). -/
theorem posterWritten_place (w : PosterWrite) (s : State) :
    (posterWritten w s).cpo.place = (advancePost s).cpo.place := by
  unfold posterWritten
  dsimp only
  repeat' split
  · rfl
  · rfl
  · rw [settleSyncs_place, dropTicket_place]

/-! ## The end of the write (R179, R185) -/

@[simp] theorem withBusFree_cpo (s : State) : (withBusFree s).cpo = s.cpo := rfl

theorem completionWriteEnd_next {s : State} {f : Flight} {w : PosterWrite} (flying : s.flight = some f)
    (writing : f.requester = .poster w) :
    ∃ t, exec (.completionWriteEnd .ok) s = .next t ∧ SameButChoice (posterWritten w (withBusFree s)) t := by
  have e : exec (.completionWriteEnd .ok) s = finish (posterWritten w (withBusFree s)) := by
    simp only [exec, execCompletionWriteEnd, flying, writing, writeMayEnd, if_true]
    rfl
  rw [e]
  exact finish_next _

theorem posterWritten_event (e : EventSource) (s : State) : posterWritten (.event e) s = advancePost s := rfl

/-- In RESETTING the reservations are already cleared, and RT is told nothing (R185). -/
theorem posterWritten_resetting {s : State} (h : s.dev.state = .resetting) (w : PosterWrite) :
    posterWritten w s = advancePost s := by
  cases w with
  | event e => rfl
  | completion c => exact if_pos (by simpa using h)

/-- A written completion leaves the reservations and the outstanding set of its ring (R179). -/
def completionGone (c : Completion) (s : State) : State := dropTicket c.ticket (advancePost (withBusFree s))

@[simp] theorem advancePost_ring (s : State) (r : RingId) : (advancePost s).ring r = s.ring r := by
  cases r <;> rfl

section
variable {s : State} (w : s.writing = true) (c : Completion)

@[simp] theorem completionGone_reserved : (completionGone c s).cpo.reserved = s.cpo.reserved - 1 := by
  simp [completionGone, dropTicket]

@[simp] theorem completionGone_queue : (completionGone c s).cpo.queue = s.cpo.queue := by
  simp [completionGone, dropTicket]

@[simp] theorem completionGone_ring : (completionGone c s).ring c.ticket.ring =
    { s.ring c.ticket.ring with outstanding := (s.ring c.ticket.ring).outstanding.erase c.ticket.take } := by
  simp [completionGone, dropTicket, forget]

theorem completionGone_ring_of_ne {r : RingId} (h : r ≠ c.ticket.ring) : (completionGone c s).ring r = s.ring r := by
  simp [completionGone, dropTicket, forget, State.setRing_ring_of_ne _ _ h.symm]

include w

theorem completionGone_writing : (completionGone c s).writing = true :=
  (writing_congr (by simp [completionGone])).trans w

/-- While requests are kept, the written completion is gone, and the SYNCs that it frees are answered. -/
theorem posterWritten_completion : posterWritten (.completion c) (withBusFree s) =
    answerSyncs c.ticket.ring (s.ring c.ticket.ring).syncs (completionGone c s) := by
  have notResetting : s.dev.state ≠ .resetting := by
    obtain h | h := writing_iff.1 w <;> simp [h]
  have gone : posterWritten (.completion c) (withBusFree s) = settleSyncs c.ticket.ring (completionGone c s) :=
    if_neg (by simpa using notResetting)
  rw [gone, settleSyncs, completionGone_ring]

end

section
variable {s t : State} (h : SameButChoice s t)
include h

theorem SameButChoice.place_eq : t.cpo.place = s.cpo.place := by
  obtain ⟨_, _, _, rfl⟩ := h.exists_eq
  rfl

theorem SameButChoice.reserved_eq : t.cpo.reserved = s.cpo.reserved := by
  obtain ⟨_, _, _, rfl⟩ := h.exists_eq
  rfl

theorem SameButChoice.ports_eq : t.ports = s.ports := by
  obtain ⟨_, _, _, rfl⟩ := h.exists_eq
  rfl

theorem SameButChoice.lists_eq : t.lists = s.lists := by
  obtain ⟨_, _, _, rfl⟩ := h.exists_eq
  rfl

end

/-- Settles O27: post and phase in every state; then an event, and a completion by the device's state and by what the
oldest SYNC of its ring waits for. -/
theorem writtenRecordsMovePost : Obligations.WrittenRecordsMovePost := by
  intro s f w flying writing
  obtain ⟨t, e, only⟩ := completionWriteEnd_next flying writing
  have place := only.place_eq.trans (posterWritten_place w (withBusFree s))
  obtain ⟨post, rest⟩ := Prod.mk.inj place
  obtain ⟨release, phase⟩ := Prod.mk.inj rest
  refine ⟨t, e, only.flight_eq.trans (by simp [withBusFree]), post, phase, release,
    only.dev_eq.trans (by simp), only.lists_eq.trans (by simp [withBusFree]),
    only.ports_eq.trans (by simp [withBusFree]), ?event, ?completion⟩
  case event =>
    rintro e rfl
    rw [posterWritten_event] at only
    exact ⟨only.reserved_eq, only.queue_eq, only.ring_eq .u, only.ring_eq .b⟩
  case completion =>
    rintro c rfl
    refine ⟨fun resetting => ?_, fun kept => ?_⟩
    · rw [posterWritten_resetting (by exact resetting)] at only
      exact ⟨only.reserved_eq, only.ring_eq .u, only.ring_eq .b⟩
    have w : s.writing = true := writing_iff.2 kept
    have w' := completionGone_writing w c
    rw [posterWritten_completion w c] at only
    obtain ⟨answers, waiting, answered⟩ := answerSyncs_writing c.ticket.ring (s.ring c.ticket.ring).syncs w'
    refine ⟨?reserved, ?outstanding, fun r hr => ?other, fun y rest syncs due next => ?due, fun wait => ?waits⟩
    case reserved => rw [only.reserved_eq, answered]; simp
    case outstanding => rw [only.ring_eq, answered]; simp
    case other =>
      rw [only.ring_eq, answered, State.setSyncs_ring_of_ne _ _ hr]
      exact completionGone_ring_of_ne c hr
    case due =>
      rw [syncs, answerSyncs_due w' (by simpa using due) next] at only
      rw [only.queue_eq, only.ring_eq]
      simp [enqueue, WaitingSync.completion, word]
    case waits =>
      rw [answerSyncs_waits (by simpa using wait)] at only
      rw [only.queue_eq, only.ring_eq]
      simp

end Sys2Proof.Machine
end

section
/-! PROOFS. Outside ACTIVE no record is taken (O24): no ring is chosen there, and how far the rings have been taken
is kept by every operation but the take, the setup load and the pin reset. -/

namespace Sys2Proof.Machine

/-- How far a ring has been taken: its head, and the take number of the last record (R159). -/
def Ring.taken (g : Ring) : Nat × Word := (g.head, g.take)

/-- From `s` to `t` no record has been taken from either ring. -/
@[simp] abbrev NoneTaken (s t : State) : Prop := t.ringU.taken = s.ringU.taken ∧ t.ringB.taken = s.ringB.taken

/-- A ring's record set anew with the head and take number it had leaves both rings' as they were. -/
@[simp] theorem setRing_noneTaken (s : State) (r : RingId) (v : Ring) (head : v.head = (s.ring r).head)
    (take : v.take = (s.ring r).take) : NoneTaken s (s.setRing r v) := by
  have same : v.taken = (s.ring r).taken := by rw [Ring.taken, Ring.taken, head, take]
  cases r with
  | u => exact ⟨same, rfl⟩
  | b => exact ⟨rfl, same⟩

/-- A fold takes no record when none of its steps does. -/
theorem foldl_noneTaken {β : Type} {f : State → β → State} (h : ∀ s x, NoneTaken s (f s x)) (l : List β) (s : State) :
    NoneTaken s (l.foldl f s) :=
  ⟨foldl_keeps (g := fun s => s.ringU.taken) (fun s x => (h s x).1) l s,
    foldl_keeps (g := fun s => s.ringB.taken) (fun s x => (h s x).2) l s⟩

/-! ## Completions and SYNCs -/

@[simp] theorem forget_noneTaken (t : Ticket) (s : State) : NoneTaken s (forget t s) := by simp [forget]

@[simp] theorem dropTicket_noneTaken (t : Ticket) (s : State) : NoneTaken s (dropTicket t s) := by simp [dropTicket]

@[simp] theorem setSyncs_noneTaken (s : State) (r : RingId) (l : List WaitingSync) : NoneTaken s (s.setSyncs r l) := by
  simp [State.setSyncs]

@[simp] theorem deliver_noneTaken (c : Completion) (s : State) : NoneTaken s (deliver c s) := by
  unfold deliver
  split <;> simp

@[simp] theorem answerSyncs_noneTaken (r : RingId) (l : List WaitingSync) (s : State) :
    NoneTaken s (answerSyncs r l s) := by
  induction l generalizing s with
  | nil => simp [answerSyncs]
  | cons y l ih =>
    rw [answerSyncs]
    split
    · exact ⟨(ih _).1.trans (by simp), (ih _).2.trans (by simp)⟩
    · simp

@[simp] theorem settleSyncs_noneTaken (r : RingId) (s : State) : NoneTaken s (settleSyncs r s) :=
  answerSyncs_noneTaken _ _ _

@[simp] theorem request_noneTaken (c : Completion) (s : State) : NoneTaken s (request c s) := by
  unfold request
  split <;> simp

@[simp] theorem answer_noneTaken (t : Ticket) (x : Status) (a b : Word) (s : State) :
    NoneTaken s (answer t x a b s) := request_noneTaken _ _

@[simp] theorem answerAll_noneTaken (l : List Ticket) (x : Status) (a b : Word) (s : State) :
    NoneTaken s (answerAll l x a b s) := foldl_noneTaken (by simp) _ _

@[simp] theorem dropQueue_noneTaken (s : State) : NoneTaken s (dropQueue s) :=
  foldl_noneTaken (f := fun s (c : Completion) => settleSyncs c.ticket.ring (dropTicket c.ticket s)) (by simp)
    s.cpo.queue (s.setCpo { s.cpo with queue := [] })

@[simp] theorem enterQfault_noneTaken (c : PosterCause) (s : State) : NoneTaken s (enterQfault c s) := by
  simp [enterQfault]

@[simp] theorem posterWritten_noneTaken (w : PosterWrite) (s : State) : NoneTaken s (posterWritten w s) := by
  unfold posterWritten
  dsimp only
  repeat' split
  all_goals simp

@[simp] theorem posterFailed_noneTaken (w : PosterWrite) (c : PosterCause) (s : State) :
    NoneTaken s (posterFailed w c s) := by
  unfold posterFailed
  dsimp only
  repeat' split
  all_goals simp

@[simp] theorem posterWriteEnds_noneTaken (w : PosterWrite) (a : WriteEnd) (s : State) :
    NoneTaken s (posterWriteEnds w a s) := by
  unfold posterWriteEnds
  repeat' split
  all_goals simp

/-! ## Rings and slots -/

@[simp] theorem faultRing_noneTaken (r : RingId) (c : RingCause) (s : State) : NoneTaken s (faultRing r c s) := by
  simp [faultRing]

@[simp] theorem ringReadEnds_noneTaken (r : RingId) (a : ReadEnd) (s : State) : NoneTaken s (ringReadEnds r a s) := by
  unfold ringReadEnds
  repeat' split
  all_goals simp

@[simp] theorem writeTail_noneTaken (r : RingId) (v : Nat) (s : State) : NoneTaken s (writeTail r v s) := by
  unfold writeTail Ring.withTail
  repeat' split
  all_goals simp

@[simp] theorem writeRelease_noneTaken (v : Nat) (s : State) : NoneTaken s (writeRelease v s) := by
  unfold writeRelease
  repeat' split
  all_goals simp

@[simp] theorem releaseStall_noneTaken (r : RingId) (s : State) : NoneTaken s (releaseStall r s) := by
  unfold releaseStall
  repeat' split
  all_goals simp

@[simp] theorem releaseStalls_noneTaken (s : State) : NoneTaken s (releaseStalls s) := by simp [releaseStalls]

@[simp] theorem freeOwned_noneTaken (o : Owner) (s : State) : NoneTaken s (freeOwned o s) := by simp [freeOwned]

@[simp] theorem freeReclaimed_noneTaken (s : State) : NoneTaken s (freeReclaimed s) := by simp [freeReclaimed]

@[simp] theorem withdraw_noneTaken (o : Owner) (s : State) : NoneTaken s (withdraw o s) := by
  unfold withdraw
  repeat' split
  all_goals simp

/-! ## The ends of data bursts -/

@[simp] theorem leave_noneTaken (p : PanelId) (e : Entry) (x : Status) (a b : Word) (s : State) :
    NoneTaken s (leave p e x a b s) := by
  simp [leave]

@[simp] theorem loadEnds_noneTaken (g : Fin 4) (op : Operation) (s : State) : NoneTaken s (loadEnds g op s) := by
  unfold loadEnds
  repeat' split
  all_goals simp

@[simp] theorem loadFails_noneTaken (g : Fin 4) (x : Status) (op : Operation) (s : State) :
    NoneTaken s (loadFails g x op s) := by
  unfold loadFails
  repeat' split
  all_goals simp

@[simp] theorem fetchDone_noneTaken (op : Operation) (s : State) : NoneTaken s (fetchDone op s) := by
  unfold fetchDone
  repeat' split
  all_goals simp

@[simp] theorem entryEnds_noneTaken (p : PanelId) (r : RingId) (n : Word) (x : Status) (d : Entry → Word × Word)
    (s : State) : NoneTaken s (entryEnds p r n x d s) := by
  unfold entryEnds
  repeat' split
  all_goals simp

@[simp] theorem operationFails_noneTaken (op : Operation) (x : Status) (s : State) :
    NoneTaken s (operationFails op x s) := by
  unfold operationFails
  repeat' split
  all_goals simp

@[simp] theorem writeBackDone_noneTaken (op : Operation) (s : State) : NoneTaken s (writeBackDone op s) := by
  unfold writeBackDone
  repeat' split
  all_goals simp

@[simp] theorem fetchEnds_noneTaken (c : Fin 4) (op : Operation) (a : ReadEnd) (s : State) :
    NoneTaken s (fetchEnds c op a s) := by
  unfold fetchEnds
  dsimp only
  repeat' split
  all_goals simp

@[simp] theorem writeBackEnds_noneTaken (c : Fin 4) (op : Operation) (a : WriteEnd) (s : State) :
    NoneTaken s (writeBackEnds c op a s) := by
  unfold writeBackEnds
  repeat' split
  all_goals simp

@[simp] theorem orphanEnds_noneTaken (op : Operation) (a : ReadEnd) (s : State) :
    NoneTaken s (orphanEnds op a s) := by
  unfold orphanEnds
  repeat' split
  all_goals simp

@[simp] theorem timeoutEnds_noneTaken (q : Requester) (s : State) : NoneTaken s (timeoutEnds q s) := by
  unfold timeoutEnds
  repeat' split
  all_goals simp

/-! ## Panels -/

@[simp] theorem commitEffect_noneTaken (p : PanelId) (d : Nat) (e : Entry) (s : State) :
    NoneTaken s (commitEffect p d e s) := by
  unfold commitEffect
  repeat' split
  all_goals simp

@[simp] theorem walkEntry_noneTaken (p : PanelId) (c : PanelConfig) (n : Word) (w : Walk) (e : Entry) :
    NoneTaken w.state (walkEntry p c n w e).state := by
  unfold walkEntry
  repeat' split
  all_goals simp

@[simp] theorem walkFrom_noneTaken (p : PanelId) (c : PanelConfig) (n : Word) (w : Walk) (l : List Entry) :
    NoneTaken w.state (walkFrom p c n w l).state :=
  ⟨foldl_keeps (g := fun w : Walk => w.state.ringU.taken) (by simp) l w,
    foldl_keeps (g := fun w : Walk => w.state.ringB.taken) (by simp) l w⟩

@[simp] theorem boundaryWork_noneTaken (p : PanelId) (c : PanelConfig) (n : Word) (s : State) :
    NoneTaken s (boundaryWork p c n s) := by
  simp [boundaryWork, commitWalk]

@[simp] theorem boundary_noneTaken (p : PanelId) (s : State) : NoneTaken s (boundary p s) := by
  unfold boundary
  dsimp only
  repeat' split
  all_goals simp

@[simp] theorem showEntry_noneTaken (p : PanelId) (i j : Nat) (n : Word) (s : State) (e : Entry) :
    NoneTaken s (showEntry p i j n s e) := by
  unfold showEntry
  repeat' split
  all_goals simp

@[simp] theorem showEntries_noneTaken (p : PanelId) (i j : Nat) (n : Word) (s : State) :
    NoneTaken s (showEntries p i j n s) :=
  foldl_noneTaken (by simp) _ _

@[simp] theorem flushEntry_noneTaken (p : PanelId) (x : Status) (n : Word) (s : State) (e : Entry) :
    NoneTaken s (flushEntry p x n s e) := by
  unfold flushEntry
  repeat' split
  all_goals simp

@[simp] theorem flushList_noneTaken (p : PanelId) (x : Status) (n : Word) (s : State) :
    NoneTaken s (flushList p x n s) :=
  foldl_noneTaken (by simp) _ _

@[simp] theorem enterOff_noneTaken (p : PanelId) (s : State) : NoneTaken s (enterOff p s) := by simp [enterOff]

@[simp] theorem drainCheck_noneTaken (p : PanelId) (s : State) : NoneTaken s (drainCheck p s) := by
  unfold drainCheck
  repeat' split
  all_goals simp

@[simp] theorem takeFault_noneTaken (p : PanelId) (s : State) : NoneTaken s (takeFault p s) := by
  unfold takeFault
  dsimp only
  repeat' split
  all_goals simp

@[simp] theorem assertFault_noneTaken (p : PanelId) (s : State) : NoneTaken s (assertFault p s) := by
  unfold assertFault
  dsimp only
  repeat' split
  all_goals simp

@[simp] theorem reachRunning_noneTaken (p : PanelId) (s : State) : NoneTaken s (reachRunning p s) := by
  simp [reachRunning]

@[simp] theorem afterFrame_noneTaken (p : PanelId) (s : State) : NoneTaken s (afterFrame p s) := by
  unfold afterFrame
  repeat' split
  all_goals simp

@[simp] theorem endFrame_noneTaken (p : PanelId) (f : Frame) (s : State) : NoneTaken s (endFrame p f s) := by
  simp [endFrame]

/-! ## The soft reset (R173, R192) -/

@[simp] theorem softResetRings_noneTaken (s : State) : NoneTaken s (softResetRings s) := ⟨rfl, rfl⟩

@[simp] theorem softResetPort_noneTaken (s : State) (p : PanelId) : NoneTaken s (softResetPort s p) := by
  unfold softResetPort
  dsimp only
  repeat' split
  all_goals simp

@[simp] theorem softResetBlocks_noneTaken (s : State) : NoneTaken s (softResetBlocks s) := by simp [softResetBlocks]

@[simp] theorem enterResetting_noneTaken (s : State) : NoneTaken s (enterResetting s) := by
  have ports := foldl_noneTaken softResetPort_noneTaken (List.finRange 4) (softResetBlocks s)
  exact ⟨ports.1.trans (by simp), ports.2.trans (by simp)⟩

@[simp] theorem writeSoftReset_noneTaken (s : State) : NoneTaken s (writeSoftReset s) := by
  unfold writeSoftReset
  repeat' split
  all_goals simp

@[simp] theorem writeControl_noneTaken (v : Word) (s : State) : NoneTaken s (writeControl v s) := by
  unfold writeControl
  dsimp only
  repeat' split
  all_goals simp

/-- The setup read's failure takes no record; its answer may load the setup, which begins the rings anew. -/
@[simp] theorem setupReadEnds_timeout_noneTaken (s : State) : NoneTaken s (setupReadEnds .timeout s) := by
  unfold setupReadEnds
  split <;> simp

/-! ## The commands -/

/-- Outside ACTIVE the arbiter chooses no ring (R163). -/
theorem chosenRing_of_not_active {s : State} (h : s.dev.state ≠ .active) : chosenRing s = none :=
  Option.eq_none_iff_forall_ne_some.2 fun _ chosen => h (active_of_chosen chosen)

theorem dispatch_noneTaken {s : State} (h : chosenRing s = none) (k : Kind) (owner : RecordOwner) :
    Answers (NoneTaken s) (dispatch k owner s) := by
  simp [dispatch, h]

/-- Every command but those that begin the rings anew takes no record while no ring is chosen. -/
theorem exec_noneTaken {s : State} (h : chosenRing s = none) (i : Instr) (pin : i ≠ .resetNAssert)
    (load : ∀ a, i ≠ .setupReadEnd a) : Answers (NoneTaken s) (exec i s) := by
  cases i with
  | nop | sync | panelConfig | panelStart | panelStop | panelHold | panelWindow | update | fill | capture | cancel
  | glyphLoad | tallyBind | tallyUnbind | tallyDefine | tallyControl
  | tallyRead | blinkGroup | blinkZone | countInput =>
    exact dispatch_noneTaken h _ _
  | unknownKind => simp [exec, execUnknownKind, h]
  | resetNAssert => exact absurd rfl pin
  | setupReadEnd a => exact absurd rfl (load a)
  | _ =>
    simp only [exec, execResetNRelease, execInitClearEnd, execPfltAssert, execPfltRelease, execCinLevelChange,
      execUsTick, execMsTick, execTimebasePeriodStep, execFilterHoldExpiry, execBurstTimeout, execSetupReadTimeout, execLateAnswer,
      execEnable, execSoftReset, execIntEnable, execTailWrite, execCRelease, execRegisterWrite, execBurstIssue,
      execRingReadEnd, execCompletionWriteEnd, execFetchBurstEnd, execWriteBackBurstEnd, execOrphanBurstEnd,
      execFrameBoundary, execRowTransfer, execFrameEnd, execResettingExit]
    repeat' split
    all_goals simp

/-- Settles O24: outside ACTIVE no ring is chosen, and nothing but a take moves a head or counts a take. -/
theorem onlyActiveTakesRecords : Obligations.OnlyActiveTakesRecords := by
  intro i s t r notActive next pin load
  obtain ⟨u, b⟩ := exec_noneTaken (chosenRing_of_not_active notActive) i pin load t next
  cases r with
  | u => exact Prod.mk.inj u
  | b => exact Prod.mk.inj b

end Sys2Proof.Machine
end

section
/-! PROOFS. What requests, drops and events leave of CPo's record: where it writes, what it has chosen and why it faulted
stay, and no reservation is added. Every operation but a take, a choice, an issue, the end of CPo's own write, a release,
a setup load and a reset reaches CPo through these alone. -/

namespace Sys2Proof.Machine

/-- What CPo's choice of its next write sets (R178): the write presented, the event pointer and the kind last written. -/
def Poster.choice (c : Poster) : Option Presented × Nat × Written := (c.presented, c.eventPointer, c.lastWritten)

/-- From record `c` to record `d` nothing but requests, drops and events has reached CPo. -/
structure OnlyRequests (c d : Poster) : Prop where
  place : d.place = c.place
  choice : d.choice = c.choice
  faultCause : d.faultCause = c.faultCause
  reserved : d.reserved ≤ c.reserved

@[simp] theorem OnlyRequests.refl (c : Poster) : OnlyRequests c c := ⟨rfl, rfl, rfl, Nat.le_refl _⟩

theorem OnlyRequests.trans {c d e : Poster} (h : OnlyRequests c d) (h' : OnlyRequests d e) : OnlyRequests c e :=
  ⟨h'.place.trans h.place, h'.choice.trans h.choice, h'.faultCause.trans h.faultCause, h'.reserved.trans h.reserved⟩

/-- A fold makes requests only when each of its steps does. -/
theorem foldl_onlyRequests {β : Type} {c : Poster} {f : State → β → State}
    (step : ∀ s x, OnlyRequests c s.cpo → OnlyRequests c (f s x).cpo) (l : List β) {s : State}
    (h : OnlyRequests c s.cpo) : OnlyRequests c (l.foldl f s).cpo := by
  induction l generalizing s with
  | nil => exact h
  | cons x l ih => exact ih (step s x h)

section
variable {c : Poster} {s : State} (h : OnlyRequests c s.cpo)
include h

/-! ## Completions and SYNCs -/

@[simp] theorem enqueue_onlyRequests (x : Completion) : OnlyRequests c (enqueue x s).cpo :=
  ⟨h.place, h.choice, h.faultCause, h.reserved⟩

@[simp] theorem dropTicket_onlyRequests (t : Ticket) : OnlyRequests c (dropTicket t s).cpo := by
  rw [dropTicket, forget, State.setRing_cpo]
  exact ⟨h.place, h.choice, h.faultCause, (Nat.sub_le _ _).trans h.reserved⟩

@[simp] theorem deliver_onlyRequests (x : Completion) : OnlyRequests c (deliver x s).cpo := by
  unfold deliver
  split <;> simp [h]

omit h in
@[simp] theorem answerSyncs_onlyRequests {s : State} (r : RingId) (l : List WaitingSync) (h : OnlyRequests c s.cpo) :
    OnlyRequests c (answerSyncs r l s).cpo := by
  induction l generalizing s with
  | nil => simpa [answerSyncs] using h
  | cons y l ih =>
    rw [answerSyncs]
    split
    · exact ih (deliver_onlyRequests h _)
    · simpa using h

@[simp] theorem settleSyncs_onlyRequests (r : RingId) : OnlyRequests c (settleSyncs r s).cpo :=
  answerSyncs_onlyRequests _ _ h

@[simp] theorem request_onlyRequests (x : Completion) : OnlyRequests c (request x s).cpo := by
  unfold request
  split <;> simp [h]

@[simp] theorem answer_onlyRequests (t : Ticket) (x : Status) (a b : Word) : OnlyRequests c (answer t x a b s).cpo :=
  request_onlyRequests h _

@[simp] theorem answerAll_onlyRequests (l : List Ticket) (x : Status) (a b : Word) :
    OnlyRequests c (answerAll l x a b s).cpo :=
  foldl_onlyRequests (fun _ _ h => answer_onlyRequests h _ _ _ _) l h

@[simp] theorem dropQueue_onlyRequests : OnlyRequests c (dropQueue s).cpo :=
  foldl_onlyRequests (f := fun s (x : Completion) => settleSyncs x.ticket.ring (dropTicket x.ticket s))
    (fun _ _ h => settleSyncs_onlyRequests (dropTicket_onlyRequests h _) _) s.cpo.queue
    (s := s.setCpo { s.cpo with queue := [] }) ⟨h.place, h.choice, h.faultCause, h.reserved⟩

/-! ## Events (R91, R162) -/

@[simp] theorem handPanelFault_onlyRequests (p : PanelId) (n : Word) : OnlyRequests c (handPanelFault p n s).cpo := by
  unfold handPanelFault
  repeat' split
  · exact h
  · exact h
  · exact ⟨h.place, h.choice, h.faultCause, h.reserved⟩

@[simp] theorem faultRing_onlyRequests (r : RingId) (x : RingCause) : OnlyRequests c (faultRing r x s).cpo := by
  have kept : OnlyRequests c (s.setRing r { s.ring r with state := .fault, holder := none }).cpo := by simpa using h
  cases r <;> exact ⟨kept.place, kept.choice, kept.faultCause, kept.reserved⟩

@[simp] theorem ringReadEnds_onlyRequests (r : RingId) (a : ReadEnd) : OnlyRequests c (ringReadEnds r a s).cpo := by
  unfold ringReadEnds
  repeat' split
  all_goals simp [h]

@[simp] theorem writeTail_onlyRequests (r : RingId) (v : Nat) : OnlyRequests c (writeTail r v s).cpo := by
  unfold writeTail
  repeat' split
  all_goals simp [h]

/-! ## The ends of data bursts -/

@[simp] theorem leave_onlyRequests (p : PanelId) (e : Entry) (x : Status) (a b : Word) :
    OnlyRequests c (leave p e x a b s).cpo := by
  simp [leave, h]

@[simp] theorem loadEnds_onlyRequests (g : Fin 4) (op : Operation) : OnlyRequests c (loadEnds g op s).cpo := by
  unfold loadEnds
  split <;> simp [h]

@[simp] theorem loadFails_onlyRequests (g : Fin 4) (x : Status) (op : Operation) :
    OnlyRequests c (loadFails g x op s).cpo := by
  unfold loadFails
  split <;> simp [h]

@[simp] theorem fetchDone_onlyRequests (op : Operation) : OnlyRequests c (fetchDone op s).cpo := by
  unfold fetchDone
  split <;> simp [h]

@[simp] theorem entryEnds_onlyRequests (p : PanelId) (r : RingId) (n : Word) (x : Status) (d : Entry → Word × Word) :
    OnlyRequests c (entryEnds p r n x d s).cpo := by
  unfold entryEnds
  split <;> simp [h]

@[simp] theorem operationFails_onlyRequests (op : Operation) (x : Status) :
    OnlyRequests c (operationFails op x s).cpo := by
  unfold operationFails
  split <;> simp [h]

@[simp] theorem writeBackDone_onlyRequests (op : Operation) : OnlyRequests c (writeBackDone op s).cpo := by
  unfold writeBackDone
  split <;> simp [h]

@[simp] theorem fetchEnds_onlyRequests (n : Fin 4) (op : Operation) (a : ReadEnd) :
    OnlyRequests c (fetchEnds n op a s).cpo := by
  unfold fetchEnds
  dsimp only
  repeat' split
  all_goals simp [h]

@[simp] theorem writeBackEnds_onlyRequests (n : Fin 4) (op : Operation) (a : WriteEnd) :
    OnlyRequests c (writeBackEnds n op a s).cpo := by
  unfold writeBackEnds
  repeat' split
  all_goals simp [h]

/-! ## Panels -/

@[simp] theorem showEntry_onlyRequests (p : PanelId) (i j : Nat) (n : Word) (e : Entry) :
    OnlyRequests c (showEntry p i j n s e).cpo := by
  unfold showEntry
  split <;> simp [h]

@[simp] theorem showEntries_onlyRequests (p : PanelId) (i j : Nat) (n : Word) :
    OnlyRequests c (showEntries p i j n s).cpo :=
  foldl_onlyRequests (fun _ _ h => showEntry_onlyRequests h _ _ _ _ _) _ h

@[simp] theorem flushEntry_onlyRequests (p : PanelId) (x : Status) (n : Word) (e : Entry) :
    OnlyRequests c (flushEntry p x n s e).cpo := by
  unfold flushEntry
  split <;> simp [h]

@[simp] theorem flushList_onlyRequests (p : PanelId) (x : Status) (n : Word) :
    OnlyRequests c (flushList p x n s).cpo :=
  foldl_onlyRequests (fun _ _ h => flushEntry_onlyRequests h _ _ _ _) _ h

@[simp] theorem drainCheck_onlyRequests (p : PanelId) : OnlyRequests c (drainCheck p s).cpo := by
  unfold drainCheck
  split
  · simpa using h
  · exact answerAll_onlyRequests (by exact h) _ _ _ _

@[simp] theorem takeFault_onlyRequests (p : PanelId) : OnlyRequests c (takeFault p s).cpo := by
  unfold takeFault
  dsimp only
  refine handPanelFault_onlyRequests (answerAll_onlyRequests (answerAll_onlyRequests ?_ _ _ _ _) _ _ _ _) _ _
  split
  · exact h
  · exact flushList_onlyRequests (by exact h) _ _ _

@[simp] theorem enterStarting_onlyRequests (p : PanelId) : OnlyRequests c (enterStarting p s).cpo := by
  unfold enterStarting
  dsimp only
  split
  · exact takeFault_onlyRequests (by exact h) p
  · simpa using h

@[simp] theorem enterDraining_onlyRequests (p : PanelId) : OnlyRequests c (enterDraining p s).cpo := by
  have flushed {s' : State} (h : OnlyRequests c s'.cpo) (l : List Ticket) (n : Word) :
      OnlyRequests c (answerAll l .panelStopped n 0 (flushList p .panelStopped n s')).cpo :=
    answerAll_onlyRequests (flushList_onlyRequests h _ _ _) _ _ _ _
  unfold enterDraining
  dsimp only
  split
  · exact drainCheck_onlyRequests (flushed (by exact h) _ _) p
  · exact flushed (by exact h) _ _

@[simp] theorem drainFromFault_onlyRequests (p : PanelId) : OnlyRequests c (drainFromFault p s).cpo :=
  drainCheck_onlyRequests (by exact h) p

@[simp] theorem assertFault_onlyRequests (p : PanelId) : OnlyRequests c (assertFault p s).cpo := by
  unfold assertFault
  dsimp only
  split
  · exact takeFault_onlyRequests (by exact h) p
  · exact h

@[simp] theorem endFrame_onlyRequests (p : PanelId) (f : Frame) : OnlyRequests c (endFrame p f s).cpo := by
  have shown := showEntries_onlyRequests h p f.first f.last (s.port p).frameNumber
  unfold endFrame afterFrame
  split
  · exact answerAll_onlyRequests (by exact shown) _ _ _ _
  · exact drainCheck_onlyRequests (by exact shown) p
  all_goals exact shown

/-! ## The owners of records -/

@[simp] theorem cancelEntry_onlyRequests (tag : Word) (p : PanelId) (e : Entry) :
    OnlyRequests c (cancelEntry tag p s e).cpo := by
  unfold cancelEntry
  split <;> simp [h]

@[simp] theorem cancelPanel_onlyRequests (tag : Word) (p : PanelId) : OnlyRequests c (cancelPanel tag s p).cpo :=
  foldl_onlyRequests (fun _ _ h => cancelEntry_onlyRequests h _ _ _) _ h

@[simp] theorem cancelLoad_onlyRequests (tag : Word) (g : Fin 4) : OnlyRequests c (cancelLoad tag s g).cpo := by
  unfold cancelLoad
  repeat' split
  all_goals simp [h]

@[simp] theorem cancelWork_onlyRequests (tag : Word) (scope : Nat) : OnlyRequests c (cancelWork tag scope s).cpo := by
  have panels := foldl_onlyRequests (f := cancelPanel tag) (fun _ _ h => cancelPanel_onlyRequests h _ _)
    (scopePanels scope) h
  unfold cancelWork
  dsimp only
  split
  · exact foldl_onlyRequests (fun _ _ h => cancelLoad_onlyRequests h _ _) _ panels
  · exact panels

end

/-! ## Dispatches (R164) -/

/-- What every owner of a record leaves alone: the queue of the commands, DC's record, and of CPo's what requests do. -/
structure RecordOwner.Modest (o : RecordOwner) : Prop where
  pending : ∀ t record s, ((o t record s).after s).pending = s.pending
  dev : ∀ t record s, ((o t record s).after s).dev = s.dev
  cpo : ∀ t record s, OnlyRequests s.cpo ((o t record s).after s).cpo

theorem syncOwner_modest : RecordOwner.Modest syncOwner := by
  refine ⟨by simp, by simp, fun t record s => ?_⟩
  simp [syncOwner]

theorem cancelOwner_modest : RecordOwner.Modest cancelOwner := by
  refine ⟨by simp, by simp, fun t record s => ?_⟩
  unfold cancelOwner
  dsimp only
  repeat' split
  all_goals simp

theorem panelStartOwner_modest : RecordOwner.Modest panelStartOwner := by
  refine ⟨by simp, by simp, fun t record s => ?_⟩
  unfold panelStartOwner
  repeat' split
  all_goals simp

theorem panelStopOwner_modest : RecordOwner.Modest panelStopOwner := by
  refine ⟨by simp, by simp, fun t record s => ?_⟩
  unfold panelStopOwner
  repeat' split
  all_goals simp

/-- The command of every known kind is the dispatch to a modest owner. -/
theorem exec_command_modest (k : Kind) : ∃ o : RecordOwner, o.Modest ∧ ∀ s, exec k.command s = dispatch k o s := by
  cases k with
  | sync => exact ⟨_, syncOwner_modest, fun _ => rfl⟩
  | cancel => exact ⟨_, cancelOwner_modest, fun _ => rfl⟩
  | panelStart => exact ⟨_, panelStartOwner_modest, fun _ => rfl⟩
  | panelStop => exact ⟨_, panelStopOwner_modest, fun _ => rfl⟩
  | _ => exact ⟨_, ⟨by simp, by simp, by simp⟩, fun _ => rfl⟩

/-- CPo's record with one reservation more (R164). -/
def Poster.reserve (c : Poster) : Poster := { c with reserved := c.reserved + 1 }

theorem takeRecord_cpo (r : RingId) (s : State) : (takeRecord r s).cpo = s.cpo.reserve := by
  cases r <;> rfl

/-- The take of a record reserves one place, and all else that its dispatch does reaches CPo through requests. -/
theorem RecordOwner.Modest.dispatchHeld {o : RecordOwner} (modest : o.Modest) (r : RingId) (record : List Byte)
    (s : State) : OnlyRequests s.cpo.reserve (dispatchHeld o r record s).cpo := by
  have taken : (takeRecord r (s.setPassOver (passOverAfter s r))).cpo = s.cpo.reserve := takeRecord_cpo _ _
  have ruled := modest.cpo (ticketOf s r record) record (takeRecord r (s.setPassOver (passOverAfter s r)))
  rw [taken] at ruled
  unfold Machine.dispatchHeld
  dsimp only
  split
  · cases e : o (ticketOf s r record) record (takeRecord r (s.setPassOver (passOverAfter s r))) with
    | answered x a b u => rw [e] at ruled; exact answer_onlyRequests ruled _ _ _ _
    | accepted u => rw [e] at ruled; exact ruled
    | withdrawn n =>
      simp only [settleRuling, stallRing_frame, State.setPassOver_cpo]
      exact ⟨rfl, rfl, rfl, Nat.le_succ _⟩
  · exact answer_onlyRequests (by simp [taken]) _ _ _ _

theorem RecordOwner.Modest.dispatchHeld_dev {o : RecordOwner} (modest : o.Modest) (r : RingId) (record : List Byte)
    (s : State) : (Machine.dispatchHeld o r record s).dev = s.dev :=
  dispatchHeld_keeps (by simp) (by simp) (by simp) (by simp) modest.dev r record s

theorem RecordOwner.Modest.dispatchHeld_pending {o : RecordOwner} (modest : o.Modest) (r : RingId) (record : List Byte)
    (s : State) : (Machine.dispatchHeld o r record s).pending = s.pending :=
  dispatchHeld_keeps (by simp) (by simp) (by simp) (by simp) modest.pending r record s

end Sys2Proof.Machine
end

section
/-! PROOFS. The entry into QFAULT by a failed write of CPo's (O28) or by a bad release (O29), the release writes that are
accepted, and the interrupt line (O29). -/

namespace Sys2Proof.Machine

/-! ## The drop of the waiting requests (R184) -/

section
variable {s : State} (qfault : s.dev.state = .qfault)
include qfault

/-- In QFAULT a SYNC that is answered is dropped too, so no request is made. -/
theorem answerSyncs_queue_of_qfault (r : RingId) (l : List WaitingSync) :
    (answerSyncs r l s).cpo.queue = s.cpo.queue := by
  induction l generalizing s with
  | nil => simp [answerSyncs]
  | cons y l ih =>
    rw [answerSyncs]
    split
    · have dropped : deliver y.completion s = dropTicket y.ticket s := by simp only [deliver, qfault]; rfl
      rw [ih (by simpa using qfault), dropped]
      simp [dropTicket]
    · simp

theorem settleSyncs_queue_of_qfault (r : RingId) : (settleSyncs r s).cpo.queue = s.cpo.queue :=
  answerSyncs_queue_of_qfault qfault _ _

theorem dropEach_queue_of_qfault (l : List Completion) :
    (l.foldl (fun s c => settleSyncs c.ticket.ring (dropTicket c.ticket s)) s).cpo.queue = s.cpo.queue := by
  induction l generalizing s with
  | nil => rfl
  | cons c l ih =>
    rw [List.foldl_cons, ih (by simpa using qfault), settleSyncs_queue_of_qfault (by simpa using qfault)]
    simp [dropTicket]

theorem dropQueue_queue_of_qfault : (dropQueue s).cpo.queue = [] :=
  dropEach_queue_of_qfault (s := s.setCpo { s.cpo with queue := [] }) qfault s.cpo.queue

end

/-! ## The entry into QFAULT (R183) -/

/-- DC's record on the entry into QFAULT. -/
def Device.qfault (d : Device) (c : PosterCause) : Device :=
  { d with state := .qfault, cause := .poster c, causeField := d.openCauseField (.poster c) }

@[simp] theorem qfaultState_dev (c : PosterCause) (s : State) : (qfaultState c s).dev = s.dev.qfault c := rfl

@[simp] theorem qfaultState_cpo (c : PosterCause) (s : State) :
    (qfaultState c s).cpo = { s.cpo with faultCause := some c, presented := none } := rfl

@[simp] theorem enterQfault_dev (c : PosterCause) (s : State) : (enterQfault c s).dev = s.dev.qfault c := by
  simp [enterQfault]

/-- With no write presented and none to be chosen, the end of the step changes nothing. -/
theorem settled_of_not_writing {s : State} (w : s.writing = false) (p : s.cpo.presented = none) :
    chooseWrite (withdrawStaleEvent s) = s := by
  simp [withdrawStaleEvent, p, chooseWrite, w]

theorem irqAsserted_of_qfault {s : State} (h : s.dev.state = .qfault) : s.irqAsserted = true := by
  simp [State.irqAsserted, h]

/-- The record whose write has failed: a completion is dropped, an event is lost (R183). -/
def loseRecord (w : PosterWrite) (s : State) : State :=
  match w with
  | .event _ => s
  | .completion d => settleSyncs d.ticket.ring (dropTicket d.ticket s)

theorem loseRecord_onlyRequests {c : Poster} {s : State} (h : OnlyRequests c s.cpo) (w : PosterWrite) :
    OnlyRequests c (loseRecord w s).cpo := by
  unfold loseRecord
  split <;> simp [h]

@[simp] theorem loseRecord_dev (w : PosterWrite) (s : State) : (loseRecord w s).dev = s.dev := by
  unfold loseRecord
  split <;> simp

@[simp] theorem loseRecord_flight (w : PosterWrite) (s : State) : (loseRecord w s).flight = s.flight := by
  unfold loseRecord
  split <;> simp

section
variable {s : State} (w : PosterWrite) (c : PosterCause)

theorem posterFailed_writing (h : s.writing = true) :
    posterFailed w c s = dropQueue (loseRecord w (qfaultState c s)) := by
  obtain h | h := writing_iff.1 h <;> simp only [posterFailed, h] <;> rfl

theorem posterFailed_qfault (h : s.dev.state = .qfault) : posterFailed w c s = loseRecord w s := by
  simp only [posterFailed, h]
  rfl

/-- Nobody is told of the failure (R185). -/
theorem posterFailed_discarded (h : s.writing = false) (q : s.dev.state ≠ .qfault) : posterFailed w c s = s := by
  cases e : s.dev.state with
  | active | paused => simp [State.writing, e] at h
  | qfault => exact absurd e q
  | _ => simp only [posterFailed, e]

/-- In ACTIVE and PAUSED the failure is the entry into QFAULT, and every waiting request is dropped (R183, R184). -/
theorem posterFailed_enters (h : s.writing = true) :
    (posterFailed w c s).dev = s.dev.qfault c ∧ (posterFailed w c s).cpo.faultCause = some c ∧
      (posterFailed w c s).cpo.queue = [] ∧ (posterFailed w c s).cpo.presented = none := by
  have requests : OnlyRequests (qfaultState c s).cpo (dropQueue (loseRecord w (qfaultState c s))).cpo :=
    dropQueue_onlyRequests (loseRecord_onlyRequests (.refl _) w)
  rw [posterFailed_writing w c h]
  exact ⟨by simp, requests.faultCause, dropQueue_queue_of_qfault (by simp [Device.qfault]),
    congrArg Prod.fst requests.choice⟩

theorem posterFailed_place : (posterFailed w c s).cpo.place = s.cpo.place := by
  cases h : s.writing with
  | true =>
    rw [posterFailed_writing w c h]
    exact (dropQueue_onlyRequests (loseRecord_onlyRequests (.refl _) w)).place
  | false =>
    by_cases q : s.dev.state = .qfault
    · rw [posterFailed_qfault w c q]
      exact (loseRecord_onlyRequests (.refl _) w).place
    · rw [posterFailed_discarded w c h q]

/-- The device in which a write has failed is in no state in which CPo writes. -/
theorem posterFailed_not_writing : (posterFailed w c s).writing = false := by
  cases h : s.writing with
  | true =>
    simp [State.writing, (posterFailed_enters w c h).1, Device.qfault]
  | false =>
    by_cases q : s.dev.state = .qfault
    · rw [posterFailed_qfault w c q, writing_congr (loseRecord_dev w s), h]
    · rw [posterFailed_discarded w c h q, h]

end

/-- The end of CPo's write that fails with cause `c`. -/
theorem exec_completionWriteEnd_failed {s : State} {f : Flight} {w : PosterWrite} {a : WriteEnd} {c : PosterCause}
    (flying : s.flight = some f) (writing : f.requester = .poster w)
    (fails : a = .busError ∧ c = .cwriteError ∨ a = .timeout ∧ c = .cwriteTimeout ∧ s.burstTimeoutUs ≤ f.elapsed) :
    exec (.completionWriteEnd a) s = finish (posterFailed w c (withBusFree s)) := by
  obtain ⟨rfl, rfl⟩ | ⟨rfl, rfl, due⟩ := fails
  · simp only [exec, execCompletionWriteEnd, flying, writing, writeMayEnd, if_true]
    rfl
  · have expired : f.expired s = true := by simpa [Flight.expired] using due
    simp only [exec, execCompletionWriteEnd, flying, writing, writeMayEnd, expired, if_true]
    rfl

theorem SameButChoice.faultCause_eq {s t : State} (h : SameButChoice s t) : t.cpo.faultCause = s.cpo.faultCause := by
  obtain ⟨_, _, _, rfl⟩ := h.exists_eq
  rfl

/-- Settles O28: the failed write by the state of the device in which it ends. -/
theorem failedWritesEnterQfault : Obligations.FailedWritesEnterQfault := by
  intro s f w a c flying writing fails
  obtain ⟨t, e, only⟩ := finish_next (posterFailed w c (withBusFree s))
  have settled : t = chooseWrite (withdrawStaleEvent (posterFailed w c (withBusFree s))) :=
    (Host.Outcome.next.inj e).symm
  obtain ⟨post, rest⟩ := Prod.mk.inj (only.place_eq.trans (posterFailed_place w c))
  obtain ⟨release, phase⟩ := Prod.mk.inj rest
  refine ⟨t, (exec_completionWriteEnd_failed flying writing fails).trans e,
    only.flight_eq.trans (by simp [withBusFree]), post, release, phase, fun kept => ?enters, fun qfault => ?stays,
    fun resetting => ?discarded⟩
  case enters =>
    obtain ⟨dev, cause, queue, unpresented⟩ := posterFailed_enters (s := withBusFree s) w c (writing_iff.2 kept)
    rw [settled_of_not_writing (posterFailed_not_writing w c) unpresented] at settled
    subst settled
    exact ⟨dev, cause, queue, unpresented, irqAsserted_of_qfault (by rw [dev]; rfl)⟩
  case stays =>
    rw [posterFailed_qfault w c (by exact qfault)] at only
    exact ⟨only.dev_eq.trans (by simp),
      only.faultCause_eq.trans (loseRecord_onlyRequests (.refl _) w).faultCause⟩
  case discarded =>
    rwa [posterFailed_discarded w c (by simp [State.writing, resetting]) (by simp [resetting])] at only

/-! ## Release writes (R181) -/

theorem releaseAccepted_iff {v : Nat} {s : State} : releaseAccepted v s = true ↔ v < s.completionSize ∧
    (v + s.completionSize - s.cpo.release) % s.completionSize ≤
      (s.cpo.post + s.completionSize - s.cpo.release) % s.completionSize := by
  simp only [releaseAccepted, Bool.and_eq_true, decide_eq_true_eq]
  exact .rfl

section
variable {v : Nat} {s : State}

theorem writeRelease_ignored (h : s.takesIndices = false) : writeRelease v s = s := by simp [writeRelease, h]

theorem writeRelease_accepted (h : s.takesIndices = true) (ok : releaseAccepted v s = true) :
    writeRelease v s = { s with cpo := { s.cpo with release := v } } := by
  simp [writeRelease, h, ok, State.setCpo]

variable (bad : releaseAccepted v s = false)
include bad

theorem writeRelease_bad (h : s.writing = true) : writeRelease v s = enterQfault .badRelease s := by
  have taken : s.takesIndices = true := takesIndices_iff.2 ((writing_iff.1 h).elim .inl fun p => .inr (.inl p))
  simp [writeRelease, taken, bad, h]

theorem writeRelease_bad_qfault (h : s.dev.state = .qfault) : writeRelease v s = s := by
  have w : s.writing = false := by simp [State.writing, h]
  simp [writeRelease, bad, w]

end

/-- A bad release takes the device into QFAULT with the waiting requests dropped, and the indices stay (R183). -/
theorem finish_enterQfault (c : PosterCause) (s : State) :
    ∃ t, finish (enterQfault c s) = .next t ∧ t.dev = s.dev.qfault c ∧ t.cpo.place = s.cpo.place ∧
      t.cpo.queue = [] ∧ t.flight = s.flight := by
  obtain ⟨t, e, only⟩ := finish_next (enterQfault c s)
  have requests : OnlyRequests (qfaultState c s).cpo (enterQfault c s).cpo := dropQueue_onlyRequests (.refl _)
  exact ⟨t, e, only.dev_eq.trans (by simp), only.place_eq.trans requests.place,
    only.queue_eq.trans (dropQueue_queue_of_qfault rfl), only.flight_eq.trans (by simp)⟩

/-- A release write by the state of the device and by its value. -/
theorem releaseWrite_next (v : Word) (s : State) : ∃ t, exec (.cRelease v) s = .next t ∧
    (s.takesIndices = false → SameButChoice s t) ∧
    (s.takesIndices = true → releaseAccepted v.toNat s = true →
      SameButChoice { s with cpo := { s.cpo with release := v.toNat } } t) ∧
    (releaseAccepted v.toNat s = false →
      (s.writing = true → t.dev = s.dev.qfault .badRelease ∧ t.cpo.place = s.cpo.place ∧ t.cpo.queue = [] ∧
        t.flight = s.flight) ∧
      (s.dev.state = .qfault → SameButChoice s t)) := by
  obtain ⟨t, e, only⟩ := finish_next (writeRelease v.toNat s)
  refine ⟨t, e, fun ignored => ?_, fun taken ok => ?_, fun bad => ⟨fun w => ?_, fun qfault => ?_⟩⟩
  · rwa [writeRelease_ignored ignored] at only
  · rwa [writeRelease_accepted taken ok] at only
  · obtain ⟨t', e', entered⟩ := finish_enterQfault .badRelease s
    rw [← writeRelease_bad bad w, e] at e'
    cases e'
    exact entered
  · rwa [writeRelease_bad_qfault bad qfault] at only

/-! ## The interrupt line (R182) -/

theorem irqAsserted_iff_of_writing {s : State} (h : s.writing = true) :
    s.irqAsserted = true ↔ s.cpo.post ≠ s.cpo.release ∧ s.dev.intEnable = true := by
  obtain h | h := writing_iff.1 h <;> simp [State.irqAsserted, h]

theorem irqAsserted_of_not_takesIndices {s : State} (h : s.takesIndices = false) : s.irqAsserted = false := by
  cases e : s.dev.state with
  | active | paused | qfault => simp [State.takesIndices, e] at h
  | _ => simp [State.irqAsserted, e]

/-- Settles O29: a release write is ignored, becomes release, or is BAD_RELEASE; and the interrupt line by the state of
the device. -/
theorem releaseWrites : Obligations.ReleaseWrites := by
  have ignores {s : State} (a : s.dev.state ≠ .active) (p : s.dev.state ≠ .paused) (q : s.dev.state ≠ .qfault) :
      s.takesIndices = false := by simp [State.takesIndices, a, p, q]
  refine ⟨fun v s => ?_, fun s => ⟨fun h => irqAsserted_iff_of_writing (writing_iff.2 h), irqAsserted_of_qfault,
    fun a p q => irqAsserted_of_not_takesIndices (ignores a p q)⟩⟩
  obtain ⟨t, e, ignored, accepted, refused⟩ := releaseWrite_next v s
  refine ⟨t, e, fun a p q => ignored (ignores a p q),
    fun h _ _ hv le => accepted (takesIndices_iff.2 h) (releaseAccepted_iff.2 ⟨hv, le⟩), fun outside => ?_⟩
  have bad : releaseAccepted v.toNat s = false := by
    rw [Bool.eq_false_iff, Ne, releaseAccepted_iff]
    rintro ⟨below, le⟩
    obtain big | ⟨-, -, beyond⟩ := outside
    · omega
    · exact Nat.not_le_of_lt beyond le
  obtain ⟨enters, stays⟩ := refused bad
  refine ⟨fun h => ?_, stays⟩
  obtain ⟨dev, place, queue, flight⟩ := enters (writing_iff.2 h)
  exact ⟨dev, congrArg (·.2.1) place, congrArg (·.1) place, queue, flight⟩

end Sys2Proof.Machine
end

section
/-! PROOFS. The reservations stay within the free places of the completion ring (O30): a take reserves one of the places
that the choice of its ring found free, and a written record fills one that was kept for it. -/

namespace Sys2Proof.Machine

/-! ## Free places (R177) -/

theorem indexGap_eq {a b n : Nat} (ha : a < n) (hb : b < n) : indexGap a b n = if b ≤ a then a - b else a + n - b := by
  unfold indexGap
  split
  · rw [show a + n - b = a - b + n by omega, Nat.add_mod_right, Nat.mod_eq_of_lt (by omega)]
  · exact Nat.mod_eq_of_lt (by omega)

/-- An index that moves on leaves the gap one wider, unless it fills it. -/
theorem indexGap_succ {a b n : Nat} (ha : a < n) (hb : b < n) (room : indexGap a b n < n - 1) :
    indexGap ((a + 1) % n) b n = indexGap a b n + 1 := by
  rw [indexGap_eq ha hb] at room ⊢
  obtain last | before : a + 1 = n ∨ a + 1 < n := by omega
  · rw [last, Nat.mod_self, indexGap_eq (by omega) hb]
    split_ifs at room ⊢ <;> omega
  · rw [Nat.mod_eq_of_lt before, indexGap_eq before hb]
    split_ifs at room ⊢ <;> omega

theorem completionSize_congr {s t : State} (h : t.dev = s.dev) : t.completionSize = s.completionSize := by
  rw [State.completionSize, State.completionSize, h]

section
variable {s t : State} (dev : t.dev = s.dev) (place : t.cpo.place = s.cpo.place)
include dev place

theorem freePlaces_congr : t.freePlaces = s.freePlaces := by
  obtain ⟨post, rest⟩ := Prod.mk.inj place
  obtain ⟨release, -⟩ := Prod.mk.inj rest
  rw [State.freePlaces, State.freePlaces, completionSize_congr dev, post, release]

/-- Where the ring's indices stay, only the count of the reservations matters. -/
theorem State.completionsFit.of_reserved (fit : s.completionsFit) (le : t.cpo.reserved ≤ s.freePlaces) :
    t.completionsFit := by
  obtain ⟨post, rest⟩ := Prod.mk.inj place
  obtain ⟨release, -⟩ := Prod.mk.inj rest
  obtain ⟨hpost, hrelease, -⟩ := fit
  refine ⟨?_, ?_, le.trans (freePlaces_congr dev place).ge⟩
  · rwa [completionSize_congr dev, post]
  · rwa [completionSize_congr dev, release]

end

/-- CPo's choice changes neither the reservations nor the free places. -/
theorem State.completionsFit.settled {s : State} (fit : s.completionsFit) :
    (chooseWrite (withdrawStaleEvent s)).completionsFit := by
  have only := sameButChoice_settled s
  exact fit.of_reserved only.dev_eq only.place_eq (only.reserved_eq.trans_le fit.2.2)

/-! ## Takes (R164, R177) -/

/-- A ring is chosen only while a place is free that nobody has reserved (R163). -/
theorem reserved_lt_of_chosen {s : State} {r : RingId} (h : chosenRing s = some r) :
    s.cpo.reserved < s.freePlaces := by
  obtain ⟨-, -, -, room⟩ := ringAble_iff.1 (ringAble_of_chosen h)
  omega

/-- A state that differs from one with an able ring by a take and by requests keeps the law. -/
theorem completionsFit_of_taken {s t : State} {r : RingId} (chosen : chosenRing s = some r) (fit : s.completionsFit)
    (dev : t.dev = s.dev) (requests : OnlyRequests s.cpo.reserve t.cpo) : t.completionsFit :=
  fit.of_reserved dev requests.place (requests.reserved.trans (reserved_lt_of_chosen chosen))

theorem dispatch_completionsFit {o : RecordOwner} (modest : o.Modest) {k : Kind} {s t : State}
    (next : dispatch k o s = .next t) (fit : s.completionsFit) : t.completionsFit := by
  obtain rfl | ⟨r, record, chosen, -, -, rfl⟩ := dispatch_cases next
  · exact fit
  · exact (completionsFit_of_taken chosen fit (modest.dispatchHeld_dev r record s)
      (modest.dispatchHeld r record s)).settled

/-- What the dispatch of a record of an unknown kind does before CPo's choice (R165). -/
theorem unknownKind_onlyRequests (t : Ticket) (x : Status) (a b : Word) (r : RingId) (n : Nat) (s : State) :
    OnlyRequests s.cpo.reserve (answer t x a b (takeRecord r (s.setPassOver n))).cpo :=
  answer_onlyRequests (by simp [takeRecord_cpo]) _ _ _ _

theorem execUnknownKind_completionsFit {s : State} (fit : s.completionsFit) :
    Answers State.completionsFit (exec .unknownKind s) := by
  simp only [exec, execUnknownKind]
  split
  · exact answers_next.2 fit
  · rename_i r chosen
    split
    · exact answers_next.2 fit
    · exact answers_ite (fun _ => answers_finish.2 (completionsFit_of_taken chosen fit (by simp)
        (unknownKind_onlyRequests _ _ _ _ _ _ _)).settled) fun _ => answers_next.2 fit

/-! ## Written records (R179) -/

theorem posterWritten_onlyRequests (w : PosterWrite) (s : State) :
    OnlyRequests (advancePost s).cpo (posterWritten w s).cpo := by
  unfold posterWritten
  dsimp only
  repeat' split
  · exact .refl _
  · exact .refl _
  · exact settleSyncs_onlyRequests (dropTicket_onlyRequests (.refl _) _) _

/-- A written completion, in ACTIVE and PAUSED, gives up its reservation. -/
theorem posterWritten_reserved {s : State} (w : s.writing = true) (c : Completion) :
    (posterWritten (.completion c) (withBusFree s)).cpo.reserved = s.cpo.reserved - 1 := by
  obtain ⟨answers, waiting, answered⟩ :=
    answerSyncs_writing c.ticket.ring (s.ring c.ticket.ring).syncs (completionGone_writing w c)
  rw [posterWritten_completion w c, answered]
  simp

/-- A record that is written into one of the free places leaves one fewer. -/
theorem freePlaces_posterWritten {s : State} (fit : s.completionsFit) (room : 0 < s.freePlaces) (w : PosterWrite) :
    (posterWritten w (withBusFree s)).cpo.post < s.completionSize ∧
      (posterWritten w (withBusFree s)).cpo.release = s.cpo.release ∧
      (posterWritten w (withBusFree s)).freePlaces = s.freePlaces - 1 := by
  obtain ⟨hpost, hrelease, -⟩ := fit
  obtain ⟨post, rest⟩ := Prod.mk.inj (posterWritten_place w (withBusFree s))
  obtain ⟨release, -⟩ := Prod.mk.inj rest
  have post : (posterWritten w (withBusFree s)).cpo.post = (s.cpo.post + 1) % s.completionSize := post
  have release : (posterWritten w (withBusFree s)).cpo.release = s.cpo.release := release
  have size : (posterWritten w (withBusFree s)).completionSize = s.completionSize :=
    completionSize_congr (by simp)
  have gap : indexGap s.cpo.post s.cpo.release s.completionSize < s.completionSize - 1 := by
    rw [State.freePlaces] at room
    omega
  refine ⟨post ▸ Nat.mod_lt _ (by omega), release, ?_⟩
  rw [State.freePlaces, State.freePlaces, post, release, size, indexGap_succ hpost hrelease gap]
  omega

/-- A write that a reservation, or for an event an unreserved place, backs keeps the law. -/
theorem posterWritten_completionsFit {s : State} {w : PosterWrite} (writing : s.writing = true)
    (fit : s.completionsFit) (event : ∀ e, w = .event e → s.cpo.reserved < s.freePlaces)
    (completion : ∀ c, w = .completion c → 0 < s.cpo.reserved) :
    (posterWritten w (withBusFree s)).completionsFit := by
  have within : s.cpo.reserved ≤ s.freePlaces := fit.2.2
  have reserved : 0 < s.freePlaces ∧ (posterWritten w (withBusFree s)).cpo.reserved ≤ s.freePlaces - 1 := by
    cases w with
    | event e =>
      have unreserved := event e rfl
      have kept := (posterWritten_onlyRequests (.event e) (withBusFree s)).reserved
      exact ⟨by omega, kept.trans (Nat.le_sub_one_of_lt unreserved)⟩
    | completion c =>
      have backed := completion c rfl
      rw [posterWritten_reserved writing c]
      omega
  obtain ⟨post, release, free⟩ := freePlaces_posterWritten fit reserved.1 w
  have size : (posterWritten w (withBusFree s)).completionSize = s.completionSize :=
    completionSize_congr (by simp)
  refine ⟨size ▸ post, ?_, free ▸ reserved.2⟩
  rw [size, release]
  exact fit.2.1

/-- Settles O30: the dispatches by what a modest owner leaves of CPo's record, the written record by what backs it. -/
theorem reservationsStayWithinFreePlaces : Obligations.ReservationsStayWithinFreePlaces := by
  refine ⟨fun k s t next fit => ?_, fun s t f w flying requester kept fit event completion next => ?_⟩
  · obtain next | next := next
    · obtain ⟨o, modest, e⟩ := exec_command_modest k
      exact dispatch_completionsFit modest ((e s).symm.trans next) fit
    · exact execUnknownKind_completionsFit fit t next
  · have e : exec (.completionWriteEnd .ok) s = finish (posterWritten w (withBusFree s)) := by
      simp only [exec, execCompletionWriteEnd, flying, requester, writeMayEnd, if_true]
      rfl
    exact answers_finish.2 (posterWritten_completionsFit (writing_iff.2 kept) fit event completion).settled t
      (e.symm.trans next)

end Sys2Proof.Machine
end

section
/-! PROOFS. CPo's choice of its next write (O25): the event that the cyclic order gives, the write that is chosen, and
when a choice is made. -/

namespace Sys2Proof.Machine

/-! ## The sources in cyclic order (R180) -/

/-- How far a source is from position `p` in the cyclic order. -/
def EventSource.distance (p : Nat) (e : EventSource) : Nat := (e.position + 38 - p) % 38

/-- The sources from position `p` on, wrapping after 37. -/
def sourcesFrom (p : Nat) : List EventSource := eventSources.drop p ++ eventSources.take p

theorem mem_sourcesFrom (p : Nat) (e : EventSource) : e ∈ sourcesFrom p := by
  have listed : e ∈ eventSources := by
    cases e with
    | ringFault r => cases r <;> simp [eventSources]
    | _ => simp [eventSources]
  rw [← List.take_append_drop p eventSources] at listed
  exact List.mem_append.2 (List.mem_append.1 listed).symm

theorem sourcesFrom_distances : ∀ p < 38, (sourcesFrom p).map (·.distance p) = List.range 38 := by decide

theorem sourcesFrom_sorted {p : Nat} (h : p < 38) :
    (sourcesFrom p).Pairwise fun a b => a.distance p < b.distance p := by
  have sorted : ((sourcesFrom p).map (·.distance p)).Pairwise (· < ·) := by
    rw [sourcesFrom_distances p h]
    exact List.pairwise_lt_range
  exact List.pairwise_map.1 sorted

theorem nextEvent_eq (s : State) : s.nextEvent = (sourcesFrom s.cpo.eventPointer).find? s.eventSet := rfl

theorem nextEvent_eq_none_iff {s : State} : s.nextEvent = none ↔ ∀ e, s.eventSet e = false := by
  simp [nextEvent_eq, mem_sourcesFrom]

theorem eventSet_of_nextEvent {s : State} {e : EventSource} (h : s.nextEvent = some e) : s.eventSet e = true :=
  List.find?_some h

/-- No set source stands nearer to the event pointer than the one found. -/
theorem nextEvent_nearest {s : State} (pointer : s.cpo.eventPointer < 38) {e e' : EventSource}
    (h : s.nextEvent = some e) (set : s.eventSet e' = true) :
    e.distance s.cpo.eventPointer ≤ e'.distance s.cpo.eventPointer := by
  obtain ⟨-, before, after, cut, unset⟩ := List.find?_eq_some_iff_append.1 h
  have sorted := sourcesFrom_sorted pointer
  have listed := mem_sourcesFrom s.cpo.eventPointer e'
  rw [sourcesFrom, cut] at sorted listed
  obtain earlier | rfl | later : e' ∈ before ∨ e' = e ∨ e' ∈ after := by simpa using listed
  · exact absurd set (by simpa using unset e' earlier)
  · exact Nat.le_refl _
  · exact Nat.le_of_lt ((List.pairwise_cons.1 (List.pairwise_append.1 sorted).2.1).1 e' later)

/-! ## The choice (R178) -/

theorem eventChoice_eq_none_iff {s : State} :
    eventChoice s = none ↔ s.freePlaces ≤ s.cpo.reserved ∨ s.nextEvent = none := by
  rw [eventChoice]
  split <;> simp_all

theorem eventChoice_eq_some_iff {s : State} {e : EventSource} :
    eventChoice s = some e ↔ s.cpo.reserved < s.freePlaces ∧ s.nextEvent = some e := by
  rw [eventChoice]
  split <;> simp_all

/-- CPo writes, and no write of it is presented or in flight. -/
structure State.MayChoose (s : State) : Prop where
  writing : s.writing = true
  presented : s.cpo.presented = none
  inFlight : s.posterInFlight = none

theorem chooseWrite_of_not_mayChoose {s : State} (h : ¬s.MayChoose) : chooseWrite s = s := by
  refine if_neg fun free => h ?_
  simp only [Bool.and_eq_true, Option.isNone_iff_eq_none] at free
  obtain ⟨⟨writing, presented⟩, inFlight⟩ := free
  exact ⟨writing, presented, inFlight⟩

theorem chooseWrite_nothing {s : State} (queue : s.cpo.queue = []) (event : eventChoice s = none) : chooseWrite s = s := by
  simp [chooseWrite, queue, event]

section
variable {s : State} (may : s.MayChoose)
include may

theorem chooseWrite_completion (queue : s.cpo.queue ≠ [])
    (turn : eventChoice s = none ∨ s.cpo.lastWritten = .event) : chooseWrite s = presentCompletion s := by
  obtain ⟨c, rest, queue⟩ := List.exists_cons_of_ne_nil queue
  cases event : eventChoice s with
  | none => simp [chooseWrite, may.writing, may.presented, may.inFlight, queue, event]
  | some e =>
    obtain turn | turn := turn
    · simp [event] at turn
    · simp [chooseWrite, may.writing, may.presented, may.inFlight, queue, event, turn]

theorem chooseWrite_event {e : EventSource} (event : eventChoice s = some e)
    (turn : s.cpo.queue = [] ∨ s.cpo.lastWritten = .completion) : chooseWrite s = presentEvent e s := by
  cases queue : s.cpo.queue with
  | nil => simp [chooseWrite, may.writing, may.presented, may.inFlight, queue, event]
  | cons c rest =>
    obtain turn | turn := turn
    · simp [queue] at turn
    · simp [chooseWrite, may.writing, may.presented, may.inFlight, queue, event, turn]

end

/-- Nothing is waiting that may be chosen. -/
def State.NothingToChoose (s : State) : Prop := s.cpo.queue = [] ∧ eventChoice s = none

/-- The choice presents a completion or a set event, or nothing is left to choose. -/
theorem chooseWrite_cases (s : State) :
    chooseWrite s = s ∧ (s.MayChoose → s.NothingToChoose) ∨ s.MayChoose ∧ chooseWrite s = presentCompletion s ∨
      ∃ e, s.MayChoose ∧ s.eventSet e = true ∧ chooseWrite s = presentEvent e s := by
  by_cases may : s.MayChoose
  · by_cases queue : s.cpo.queue = []
    · cases event : eventChoice s with
      | none => exact .inl ⟨chooseWrite_nothing queue event, fun _ => ⟨queue, event⟩⟩
      | some e =>
        exact .inr (.inr ⟨e, may, eventSet_of_nextEvent (eventChoice_eq_some_iff.1 event).2,
          chooseWrite_event may event (.inl queue)⟩)
    · cases event : eventChoice s with
      | none => exact .inr (.inl ⟨may, chooseWrite_completion may queue (.inl event)⟩)
      | some e =>
        cases last : s.cpo.lastWritten with
        | completion =>
          exact .inr (.inr ⟨e, may, eventSet_of_nextEvent (eventChoice_eq_some_iff.1 event).2,
            chooseWrite_event may event (.inr last)⟩)
        | event => exact .inr (.inl ⟨may, chooseWrite_completion may queue (.inr last)⟩)
  · exact .inl ⟨chooseWrite_of_not_mayChoose may, fun h => absurd h may⟩

/-! ## The withdrawal (log entry 13) -/

/-- A presented event is still set. -/
def State.PresentedIsSet (s : State) : Prop := ∀ e, s.cpo.presented = some (.event e) → s.eventSet e = true

theorem withdrawStaleEvent_of_set {s : State} (h : s.PresentedIsSet) : withdrawStaleEvent s = s := by
  unfold withdrawStaleEvent
  split
  · exact if_pos (h _ ‹_›)
  · rfl

theorem withdrawStaleEvent_of_stale {s : State} {e : EventSource} (h : s.cpo.presented = some (.event e))
    (stale : s.eventSet e = false) : withdrawStaleEvent s = s.setCpo { s.cpo with presented := none } := by
  simp [withdrawStaleEvent, h, stale]

theorem eventSet_congr {s t : State} (u : t.cpo.ringFaultU = s.cpo.ringFaultU) (b : t.cpo.ringFaultB = s.cpo.ringFaultB)
    (panels : t.cpo.panelFaults = s.cpo.panelFaults) (tallies : t.tallies = s.tallies) (e : EventSource) :
    t.eventSet e = s.eventSet e := by
  cases e with
  | ringFault r => cases r <;> simp [State.eventSet, State.ringFaultEvent, u, b]
  | panelFault p => simp [State.eventSet, State.panelFaultEvent, panels]
  | tallyEnd k | tallyWatch k => simp [State.eventSet, State.tally, tallies]

theorem withdrawStaleEvent_presentedIsSet (s : State) : (withdrawStaleEvent s).PresentedIsSet := by
  by_cases h : s.PresentedIsSet
  · rwa [withdrawStaleEvent_of_set h]
  · obtain ⟨e, presented, stale⟩ : ∃ e, s.cpo.presented = some (.event e) ∧ s.eventSet e = false := by
      simpa [State.PresentedIsSet] using h
    rw [withdrawStaleEvent_of_stale presented stale]
    exact fun e' presented' => by simp at presented'

/-! ## The choice is made -/

theorem not_mayChoose_of_presented {s : State} {x : Presented} (h : s.cpo.presented = some x) : ¬s.MayChoose :=
  fun may => by simp [may.presented] at h

/-- A choice is made exactly when the presented event is set and nothing is left that may be chosen. -/
theorem choiceMade_iff {s : State} :
    s.choiceMade ↔ s.PresentedIsSet ∧ (s.MayChoose → s.NothingToChoose) := by
  constructor
  · intro made
    have set : s.PresentedIsSet := by
      intro e presented
      by_contra stale
      rw [State.choiceMade, withdrawStaleEvent_of_stale presented (Bool.eq_false_iff.2 stale)] at made
      obtain ⟨same, -⟩ | ⟨-, same⟩ | ⟨e', -, set, same⟩ :=
        chooseWrite_cases (s.setCpo { s.cpo with presented := none })
      · rw [← made, same] at presented
        simp at presented
      · rw [← made, same] at presented
        simp [presentCompletion] at presented
      · rw [← made, same] at presented
        obtain rfl : e' = e := by simpa [presentEvent] using presented
        exact stale ((eventSet_congr rfl rfl rfl rfl e').symm.trans set)
    rw [State.choiceMade, withdrawStaleEvent_of_set set] at made
    refine ⟨set, fun may => ?_⟩
    obtain ⟨-, nothing⟩ | ⟨-, same⟩ | ⟨e, -, -, same⟩ := chooseWrite_cases s
    · exact nothing may
    · have := congrArg (·.cpo.presented) (same.symm.trans made)
      simp [presentCompletion, may.presented] at this
    · have := congrArg (·.cpo.presented) (same.symm.trans made)
      simp [presentEvent, may.presented] at this
  · rintro ⟨set, nothing⟩
    rw [State.choiceMade, withdrawStaleEvent_of_set set]
    by_cases may : s.MayChoose
    · exact chooseWrite_nothing (nothing may).1 (nothing may).2
    · exact chooseWrite_of_not_mayChoose may

/-- The end of every step makes the choice, and leaves nothing to choose. -/
theorem choiceMade_settled (s : State) : (chooseWrite (withdrawStaleEvent s)).choiceMade := by
  have set := withdrawStaleEvent_presentedIsSet s
  obtain ⟨same, nothing⟩ | ⟨-, same⟩ | ⟨e, -, isSet, same⟩ := chooseWrite_cases (withdrawStaleEvent s)
  · rw [same]
    exact choiceMade_iff.2 ⟨set, nothing⟩
  · rw [same]
    exact choiceMade_iff.2 ⟨fun e presented => by simp [presentCompletion] at presented,
      fun may => absurd may (not_mayChoose_of_presented rfl)⟩
  · rw [same]
    refine choiceMade_iff.2 ⟨fun e' presented => ?_, fun may => absurd may (not_mayChoose_of_presented rfl)⟩
    obtain rfl : e = e' := by simpa [presentEvent] using presented
    exact (eventSet_congr rfl rfl rfl rfl e).trans isSet

/-- The choice stays made where nothing that it depends on changes, or CPo writes no more. -/
theorem State.choiceMade.congr {s t : State} (made : s.choiceMade) (cpo : t.cpo = s.cpo) (flight : t.flight = s.flight)
    (tallies : t.tallies = s.tallies) (setup : t.dev.setup = s.dev.setup)
    (writing : t.writing = true → s.writing = true) : t.choiceMade := by
  obtain ⟨set, nothing⟩ := choiceMade_iff.1 made
  have events : t.eventSet = s.eventSet := funext (eventSet_congr (by rw [cpo]) (by rw [cpo]) (by rw [cpo]) tallies)
  have inFlight : t.posterInFlight = s.posterInFlight := by simp only [State.posterInFlight, flight]
  have next : t.nextEvent = s.nextEvent := by rw [nextEvent_eq, nextEvent_eq, events, cpo]
  have free : t.freePlaces = s.freePlaces := by simp only [State.freePlaces, State.completionSize, setup, cpo]
  have event : eventChoice t = eventChoice s := by rw [eventChoice, eventChoice, next, free, cpo]
  refine choiceMade_iff.2 ⟨fun e presented => ?_, fun may => ?_⟩
  · rw [events]
    exact set e (cpo ▸ presented)
  · rw [State.NothingToChoose, cpo, event]
    exact nothing ⟨writing may.writing, cpo ▸ may.presented, inFlight ▸ may.inFlight⟩

end Sys2Proof.Machine
end

section
/-! PROOFS. What every command does before CPo's choice: it answers a next state in every state and leaves the queue of
the commands alone (O2), and where CPo writes, the choice stands as it was until the command's end makes it (O25). -/

namespace Sys2Proof.Machine

/-! ## Effects -/

/-- CPo's choice as it stands before a command's end makes it; a setup load begins it anew (R175). -/
def State.choiceBefore (s : State) : Option Presented × Nat × Written :=
  if s.dev.state = .setup then (none, 0, .completion) else s.cpo.choice

/-- Command `i` may take `s` to `u`, which its end then settles: the queue is untouched, and where CPo writes its choice
stands, unless the command has just issued its write. -/
structure Effect (i : Instr) (s u : State) : Prop where
  pending : u.pending = s.pending
  choice : u.writing = true → i ≠ .burstIssue ∨ u.posterInFlight = none → u.cpo.choice = s.choiceBefore

/-- The outcome is an effect of the command with CPo's choice made at its end, or one that leaves the choice made. -/
def Concludes (i : Instr) (s : State) (o : Host.Outcome State Fault Refusal) : Prop :=
  ∃ u, Effect i s u ∧ (o = finish u ∨ o = .next u ∧ (s.choiceMade → u.choiceMade))

theorem Effect.concludes {i : Instr} {s u : State} (h : Effect i s u) : Concludes i s (finish u) := ⟨u, h, .inl rfl⟩

section
variable {i : Instr} {s u : State} (pending : u.pending = s.pending)
include pending

theorem effect_of_not_writing (w : u.writing = false) : Effect i s u :=
  ⟨pending, fun writing => by simp [w] at writing⟩

theorem effect_of_choice (choice : u.cpo.choice = s.cpo.choice) (state : u.writing = true → s.dev.state ≠ .setup) :
    Effect i s u :=
  ⟨pending, fun writing _ => by rw [State.choiceBefore, if_neg (state writing), choice]⟩

omit pending in
theorem not_setup_of_writing (w : s.writing = true) : s.dev.state ≠ .setup := by
  obtain h | h := writing_iff.1 w <;> simp [h]

theorem effect_of_requests (dev : u.dev = s.dev) (cpo : OnlyRequests s.cpo u.cpo) : Effect i s u :=
  effect_of_choice pending cpo.choice fun w => not_setup_of_writing ((writing_congr dev).symm.trans w)

theorem concludes_of_requests (dev : u.dev = s.dev) (cpo : OnlyRequests s.cpo u.cpo) : Concludes i s (finish u) :=
  (effect_of_requests pending dev cpo).concludes

/-- A command that ends without a choice reaches nothing that the choice depends on, or leaves a state in which CPo does
not write. -/
theorem concludes_next (cpo : u.cpo = s.cpo) (flight : u.flight = s.flight) (tallies : u.tallies = s.tallies)
    (setup : u.dev.setup = s.dev.setup) (writing : u.writing = true → s.writing = true) : Concludes i s (.next u) :=
  ⟨u, effect_of_choice pending (by rw [cpo]) fun w => not_setup_of_writing (writing w),
    .inr ⟨rfl, fun made => made.congr cpo flight tallies setup writing⟩⟩

end

/-- A command without its cause changes nothing (log entry 6). -/
theorem concludes_self (i : Instr) (s : State) : Concludes i s (.next s) := concludes_next rfl rfl rfl rfl rfl id

/-- A command that acts under a condition. -/
theorem concludes_ite {i : Instr} {s u : State} {c : Prop} [Decidable c] (h : c → Effect i s u) :
    Concludes i s (if c then finish u else .next s) := by
  split
  · exact (h ‹_›).concludes
  · exact concludes_self i s

/-! ## Record commands (R164) -/

/-- A take and what requests do leave CPo's choice. -/
theorem effect_of_take {i : Instr} {s u : State} (pending : u.pending = s.pending) (dev : u.dev = s.dev)
    (cpo : OnlyRequests s.cpo.reserve u.cpo) : Effect i s u :=
  effect_of_choice pending cpo.choice fun w => not_setup_of_writing ((writing_congr dev).symm.trans w)

theorem concludes_command (i : Instr) (k : Kind) (s : State) : Concludes i s (exec k.command s) := by
  obtain ⟨o, modest, e⟩ := exec_command_modest k
  rw [e, dispatch]
  split
  · exact concludes_self i s
  · split
    · exact concludes_self i s
    · exact concludes_ite fun _ => effect_of_take (modest.dispatchHeld_pending _ _ s) (modest.dispatchHeld_dev _ _ s)
        (modest.dispatchHeld _ _ s)

theorem concludes_unknownKind (i : Instr) (s : State) : Concludes i s (exec .unknownKind s) := by
  simp only [exec, execUnknownKind]
  split
  · exact concludes_self i s
  · split
    · exact concludes_self i s
    · exact concludes_ite fun _ => effect_of_take (by simp) (by simp) (unknownKind_onlyRequests _ _ _ _ _ _ s)

/-! ## CPo's own writes and releases (R179, R181, R183) -/

theorem posterWriteEnds_effect (i : Instr) (w : PosterWrite) (a : WriteEnd) (s : State) :
    Effect i s (posterWriteEnds w a (freeBus s)) := by
  cases a with
  | ok =>
    exact effect_of_choice (by simp) (posterWritten_onlyRequests w (freeBus s)).choice fun writing =>
      not_setup_of_writing ((writing_congr (s := s) (by simp [posterWriteEnds])).symm.trans writing)
  | busError | timeout => exact effect_of_not_writing (by simp) (posterFailed_not_writing _ _)

theorem writeRelease_effect (i : Instr) (v : Nat) (s : State) : Effect i s (writeRelease v s) := by
  have entered : (enterQfault .badRelease s).writing = false := by simp [State.writing, Device.qfault]
  unfold writeRelease
  repeat' split
  · exact effect_of_choice rfl rfl not_setup_of_writing
  · exact effect_of_not_writing (by simp) entered
  all_goals exact effect_of_requests rfl rfl (.refl _)

/-! ## The issue of a burst (R68) -/

/-- Once a write of CPo's is issued, nothing is said of the choice that stood before. -/
theorem issuePoster_effect {s u : State} (pending : u.pending = s.pending) (w : PosterWrite) (data : List Byte) :
    Effect .burstIssue s (issuePoster w data u) := by
  refine ⟨by simp [pending], fun _ free => ?_⟩
  obtain other | free := free
  · exact absurd rfl other
  · cases free

theorem issue_effect (s : State) : Effect .burstIssue s (issue s) := by
  unfold issue
  split
  · unfold issueCompletion
    split
    · exact effect_of_requests rfl rfl (.refl _)
    · exact issuePoster_effect (by rfl) _ _
  · exact issuePoster_effect (by simp) _ _
  · split
    · rename_i a waits
      have inSetup : s.dev.state = .setup := by
        by_contra h
        simp [setupWaits_of_not_setup h] at waits
      exact effect_of_not_writing (by simp) (by simp [State.writing, inSetup])
    · exact effect_of_requests (by simp) (by simp) (by simp)

/-! ## Timeouts (R73) -/

theorem timeoutEnds_effect (i : Instr) (q : Requester) (s : State) : Effect i s (timeoutEnds q s) := by
  unfold timeoutEnds
  split
  case h_1 => exact posterWriteEnds_effect i _ .timeout s
  all_goals
    repeat' split
    all_goals exact effect_of_requests (by simp) (by simp) (by simp)

/-! ## Control and setup (R188, R189, R191, R192) -/

@[simp] theorem enterResetting_dev (s : State) : (enterResetting s).dev = s.dev.softReset :=
  (foldl_keeps (by simp) _ _).trans (by simp [softResetBlocks])

theorem enterResetting_not_writing (s : State) : (enterResetting s).writing = false := by
  simp [State.writing, Device.softReset]

/-- SOFT_RESET leads to no state in which CPo writes. -/
theorem writeSoftReset_not_writing (s : State) : (writeSoftReset s).writing = false := by
  cases h : s.dev.state with
  | init | resetting | setup => simp [writeSoftReset, State.writing, h]
  | _ => simp only [writeSoftReset, h, enterResetting_not_writing]

/-- SETUP is not left by a write of ENABLE. -/
theorem not_setup_of_writeEnable_writing {bit : Bool} {s : State} (w : (writeEnable bit s).writing = true) :
    s.dev.state ≠ .setup := fun h => by simp [writeEnable, h, State.writing] at w

theorem writeControl_effect (i : Instr) (v : Word) (s : State) : Effect i s (writeControl v s) := by
  unfold writeControl
  dsimp only
  repeat' split
  · exact effect_of_not_writing (by simp) (writeSoftReset_not_writing _)
  · exact effect_of_choice (by simp) (by simp) (not_setup_of_writeEnable_writing (s := writeIntEnable _ s))
  · exact effect_of_requests rfl rfl (.refl _)

theorem setupFails_not_writing (c : Cause) (n : Nat) (e : Bool) (s : State) :
    (setupFails c n e s).writing = false := rfl

theorem setupReadEnds_effect (i : Instr) {s : State} (h : s.setupInFlight = true) (a : ReadEnd) :
    Effect i s (setupReadEnds a (freeBus s)) := by
  have inSetup : s.dev.state = .setup := by
    simp only [State.setupInFlight, Bool.and_eq_true, beq_iff_eq] at h
    exact h.1
  have fails (c : Cause) (n : Nat) : Effect i s (setupFails c n false (freeBus s)) :=
    effect_of_not_writing (by simp) (setupFails_not_writing _ _ _ _)
  unfold setupReadEnds
  repeat' split
  · exact effect_of_not_writing (by simp) (enterResetting_not_writing _)
  · exact fails _ _
  · refine ⟨by simp, fun _ _ => ?_⟩
    rw [applySetup_cpo, State.choiceBefore, if_pos inSetup]
    rfl
  · exact fails _ _
  · exact fails _ _

theorem pinReset_not_writing (s : State) : (pinReset s).writing = false := rfl

theorem concludes_resetNAssert (i : Instr) (s : State) : Concludes i s (exec .resetNAssert s) :=
  ⟨pinReset s, effect_of_not_writing rfl (pinReset_not_writing s), .inr ⟨rfl, fun _ =>
    settled_of_not_writing (pinReset_not_writing s) rfl⟩⟩

theorem concludes_registerWrite (i : Instr) (r : PlainRegister) (v : Word) (s : State) :
    Concludes i s (exec (.registerWrite r v) s) := by
  simp only [exec, execRegisterWrite]
  split
  · cases r <;> exact concludes_next rfl rfl rfl rfl rfl id
  · exact concludes_self _ s

/-! ## All commands -/

theorem exec_concludes (i : Instr) (s : State) : Concludes i s (exec i s) := by
  cases i with
  | nop => exact concludes_command _ .nop s
  | sync => exact concludes_command _ .sync s
  | panelConfig => exact concludes_command _ .panelConfig s
  | panelStart => exact concludes_command _ .panelStart s
  | panelStop => exact concludes_command _ .panelStop s
  | panelHold => exact concludes_command _ .panelHold s
  | panelWindow => exact concludes_command _ .panelWindow s
  | update => exact concludes_command _ .update s
  | fill => exact concludes_command _ .fill s
  | capture => exact concludes_command _ .capture s
  | cancel => exact concludes_command _ .cancel s
  | glyphLoad => exact concludes_command _ .glyphLoad s
  | tallyBind => exact concludes_command _ .tallyBind s
  | tallyUnbind => exact concludes_command _ .tallyUnbind s
  | tallyDefine => exact concludes_command _ .tallyDefine s
  | tallyControl => exact concludes_command _ .tallyControl s
  | tallyRead => exact concludes_command _ .tallyRead s
  | blinkGroup => exact concludes_command _ .blinkGroup s
  | blinkZone => exact concludes_command _ .blinkZone s
  | countInput => exact concludes_command _ .countInput s
  | unknownKind => exact concludes_unknownKind _ s
  | resetNAssert => exact concludes_resetNAssert _ s
  | registerWrite r v => exact concludes_registerWrite _ r v s
  | enable v | softReset v | intEnable v => exact (writeControl_effect _ v s).concludes
  | cRelease v => exact (writeRelease_effect _ v.toNat s).concludes
  | burstIssue => exact concludes_ite fun _ => issue_effect s
  | setupReadTimeout => exact concludes_ite fun h => setupReadEnds_effect _ h .timeout
  | setupReadEnd a =>
    exact concludes_ite fun h => setupReadEnds_effect _ (Bool.and_eq_true_iff.1 h).1 a
  | burstTimeout =>
    simp only [exec, execBurstTimeout]
    split
    · exact concludes_self _ s
    · exact concludes_ite fun _ => timeoutEnds_effect _ _ s
  | completionWriteEnd a =>
    simp only [exec, execCompletionWriteEnd]
    split
    · exact concludes_self _ s
    · split
      · exact concludes_ite fun _ => posterWriteEnds_effect _ _ a s
      · exact concludes_self _ s
  | resetNRelease | initClearEnd | resettingExit =>
    simp only [exec, execResetNRelease, execInitClearEnd, execResettingExit]
    split
    · exact concludes_next rfl rfl rfl rfl rfl nofun
    · exact concludes_self _ s
  | pfltRelease p => exact concludes_next rfl rfl rfl rfl rfl id
  | lateAnswer => exact concludes_self _ s
  | cinLevelChange n v =>
    simp only [exec, execCinLevelChange]
    repeat' split
    · exact concludes_self _ s
    · exact concludes_of_requests (by simp) (by simp) (by simp)
    · exact concludes_next rfl rfl rfl rfl rfl id
  | rowTransfer p =>
    simp only [exec, execRowTransfer]
    split
    · exact concludes_next rfl rfl rfl rfl rfl id
    · exact concludes_self _ s
  | usTick | tailWrite r v => exact concludes_of_requests (by simp) (by simp) (by simp)
  | msTick | timebasePeriodStep n | filterHoldExpiry n | frameBoundary p =>
    exact concludes_ite fun _ => effect_of_requests (by simp) (by simp) (by simp)
  | pfltAssert p =>
    simp only [exec, execPfltAssert]
    split
    · exact concludes_self _ s
    · exact concludes_of_requests (by simp) (by simp) (by simp)
  | fetchBurstEnd a | writeBackBurstEnd a =>
    simp only [exec, execFetchBurstEnd, execWriteBackBurstEnd]
    split
    · exact concludes_self _ s
    · exact concludes_ite fun _ => effect_of_requests (by simp) (by simp) (by simp)
  | ringReadEnd a | orphanBurstEnd a =>
    simp only [exec, execRingReadEnd, execOrphanBurstEnd]
    split
    · exact concludes_self _ s
    · split
      · exact concludes_ite fun _ => effect_of_requests (by simp) (by simp) (by simp)
      · exact concludes_self _ s
  | frameEnd p =>
    simp only [exec, execFrameEnd]
    split
    · exact concludes_ite fun _ => effect_of_requests (by simp) (by simp) (by simp)
    · exact concludes_self _ s

/-! ## The obligations -/

theorem SameButChoice.pending_eq {s t : State} (h : SameButChoice s t) : t.pending = s.pending := by
  obtain ⟨_, _, _, rfl⟩ := h.exists_eq
  rfl

/-- Settles O2: every command ends with CPo's choice or without it, and neither its effect nor the choice reaches the
queue. -/
theorem everyCommandAnswersAndLeavesTheQueue : Obligations.EveryCommandAnswersAndLeavesTheQueue := by
  intro i s
  obtain ⟨u, effect, e | ⟨e, -⟩⟩ := exec_concludes i s
  · exact ⟨_, e, (sameButChoice_settled u).pending_eq.trans effect.pending⟩
  · exact ⟨u, e, effect.pending⟩

/-- State `t` with CPo's choice as given. -/
def State.withChoice (t : State) (c : Option Presented × Nat × Written) : State :=
  t.setCpo { t.cpo with presented := c.1, eventPointer := c.2.1, lastWritten := c.2.2 }

theorem beforeChoice_eq_withChoice (s t : State) : beforeChoice s t = t.withChoice s.choiceBefore := by
  unfold beforeChoice State.choiceBefore
  split <;> rfl

/-- The next state with the choice as it stood before is the command's effect. -/
theorem beforeChoice_eq {s u t : State} (only : SameButChoice u t) (stood : u.cpo.choice = s.choiceBefore) :
    beforeChoice s t = u := by
  obtain ⟨_, _, _, rfl⟩ := only.exists_eq
  rw [beforeChoice_eq_withChoice, ← stood]
  rfl

theorem exec_choiceMade {i : Instr} {s t : State} (next : exec i s = .next t) (made : s.choiceMade) :
    t.choiceMade := by
  obtain ⟨u, -, e | ⟨e, keeps⟩⟩ := exec_concludes i s
  · obtain rfl := Host.Outcome.next.inj (next.symm.trans e)
    exact choiceMade_settled u
  · obtain rfl := Host.Outcome.next.inj (next.symm.trans e)
    exact keeps made

theorem posterInFlight_congr {s t : State} (h : t.flight = s.flight) : t.posterInFlight = s.posterInFlight := by
  simp only [State.posterInFlight, h]

/-- Where CPo writes, the next state is the choice made on the effect with the choice as it stood. -/
theorem exec_eq_choice {i : Instr} {s t : State} (next : exec i s = .next t) (made : s.choiceMade)
    (writing : t.writing = true) (unissued : i ≠ .burstIssue ∨ t.posterInFlight = none) :
    t = chooseWrite (withdrawStaleEvent (beforeChoice s t)) := by
  obtain ⟨u, effect, e | ⟨e, keeps⟩⟩ := exec_concludes i s
  · have only := sameButChoice_settled u
    obtain rfl := Host.Outcome.next.inj (next.symm.trans e)
    rw [writing_congr only.dev_eq] at writing
    rw [posterInFlight_congr only.flight_eq] at unissued
    rw [beforeChoice_eq only (effect.choice writing unissued)]
  · obtain rfl := Host.Outcome.next.inj (next.symm.trans e)
    rw [beforeChoice_eq (.refl t) (effect.choice writing unissued)]
    exact (keeps made).symm

/-- Settles O25: the choice by what is waiting, the event by the cyclic order, the withdrawal, and the choice at the end
of every command. -/
theorem choiceOfTheNextWrite : Obligations.ChoiceOfTheNextWrite := by
  refine ⟨fun s presented inFlight => ⟨fun w => ?off, fun w => ?on⟩, fun s pointer => ⟨nextEvent_eq_none_iff, fun e h =>
      ⟨eventSet_of_nextEvent h, fun e' set => nextEvent_nearest pointer h set⟩⟩,
    fun s set => withdrawStaleEvent_of_set set, fun s e presented stale => withdrawStaleEvent_of_stale presented stale,
    fun i s t => exec_choiceMade, fun i s t => exec_eq_choice⟩
  case off => exact chooseWrite_of_not_mayChoose fun may => by simp [may.writing] at w
  case on =>
    have may : s.MayChoose := ⟨w, presented, inFlight⟩
    refine ⟨fun queue none => chooseWrite_nothing queue (eventChoice_eq_none_iff.2 none), fun queue turn => ?_,
      fun e event room turn => ?_⟩
    · rw [chooseWrite_completion may queue (by rwa [eventChoice_eq_none_iff, or_assoc])]
      rfl
    · rw [chooseWrite_event may (eventChoice_eq_some_iff.2 ⟨room, event⟩) turn]
      rfl

end Sys2Proof.Machine
end

section
/-! PROOFS. The release of RESET_n and the end of the clearing (O10). -/

namespace Sys2Proof.Machine

theorem exec_resetNRelease_asserted {s : State} (h : s.dev.resetAsserted = true) :
    exec .resetNRelease s = .next (s.setDev { s.dev with resetAsserted := false, state := .init }) := by
  simp [exec, execResetNRelease, h]

theorem exec_initClearEnd_clearing {s : State} (released : s.dev.resetAsserted = false)
    (clearing : s.dev.state = .init) :
    exec .initClearEnd s =
      .next ((s.setRegions (Vector.replicate 4 [])).setDev { s.dev with state := .halted }) := by
  simp [exec, execInitClearEnd, released, clearing]

/-- Every pixel of a cleared frame store has shade 0 (R2). -/
theorem shade_of_cleared {s : State} (h : s.regions = Vector.replicate 4 []) (p : PanelId) (x y : Nat) :
    (s.region p).shade x y = 0 := by
  simp [State.region, h, Memory.shade, Memory.read]

/-- Settles O10: the two events of R187 under their causes, each an update of the record. -/
theorem pinResetReleaseAndClearing : Obligations.PinResetReleaseAndClearing :=
  ⟨fun _ asserted => ⟨_, exec_resetNRelease_asserted asserted, rfl⟩,
    fun _ released clearing => ⟨_, exec_initClearEnd_clearing released clearing, rfl, shade_of_cleared rfl, rfl⟩⟩

end Sys2Proof.Machine
end

section
/-! PROOFS. Register writes by the state of the device, and what every register reads (O12). -/

namespace Sys2Proof.Machine

/-! ## Which writes are heard (R187, R188) -/

theorem hearsWrites_eq_false_iff {s : State} :
    s.hearsWrites = false ↔ s.dev.resetAsserted = true ∨ s.dev.state = .init := by
  simp [State.hearsWrites, or_iff_not_imp_left]

theorem hearsWrites_iff {s : State} :
    s.hearsWrites = true ↔ ¬(s.dev.resetAsserted = true ∨ s.dev.state = .init) := by
  rw [← hearsWrites_eq_false_iff, Bool.not_eq_false]

theorem hearsWrites_of {s : State} (released : s.dev.resetAsserted = false) (running : s.dev.state ≠ .init) :
    s.hearsWrites = true := hearsWrites_iff.2 (by simp [released, running])

/-! ## CONTROL (R188) -/

/-- The ENABLE bit acts on DC's record alone, by the columns of R188. -/
theorem writeEnable_eq (bit : Bool) (s : State) : writeEnable bit s = s.setDev (enableOutcome s.dev bit) := by
  cases state : s.dev.state with
  | halted =>
    by_cases aligned : s.dev.setupAddress.toNat % 64 = 0 <;> cases bit <;>
      simp [writeEnable, enableOutcome, state, enterSetup, aligned, setupFails, State.setDev]
  | _ => cases bit <;> simp [writeEnable, enableOutcome, state, State.setDev]

/-- A CONTROL write without SOFT_RESET. -/
theorem writeControl_enable {v : Word} (noReset : v.getLsbD 1 = false) (s : State) :
    writeControl v s =
      if s.dev.resetAsserted = true ∨ s.dev.state = .init then s
      else s.setDev (enableOutcome { s.dev with intEnable := v.getLsbD 2 } (v.getLsbD 0)) := by
  by_cases deaf : s.dev.resetAsserted = true ∨ s.dev.state = .init
  · simp only [writeControl, hearsWrites_eq_false_iff.2 deaf, deaf, if_true, Bool.false_eq_true, if_false]
  · simp only [writeControl, hearsWrites_iff.2 deaf, deaf, noReset, if_true, Bool.false_eq_true, if_false,
      writeEnable_eq]
    rfl

/-! ## The other registers (R188) -/

/-- Two registers side by side, as one address. -/
theorem toNat_halves (high low : Word) : BitVec.toNat (w := 64) (high ++ low) = high.toNat * 2 ^ 32 + low.toNat := by
  have append : BitVec.toNat (w := 64) (high ++ low) = high.toNat <<< 32 ||| low.toNat := BitVec.toNat_append high low
  rw [append, ← Nat.shiftLeft_add_eq_or_of_lt low.isLt, Nat.shiftLeft_eq]

theorem toNat_lowHalf (a : Addr) : (a.extractLsb' 0 32).toNat = a.toNat % 2 ^ 32 := by simp

theorem toNat_highHalf (a : Addr) : (a.extractLsb' 32 32).toNat = a.toNat / 2 ^ 32 := by
  have := a.isLt
  rw [BitVec.extractLsb'_toNat, Nat.shiftRight_eq_div_pow]
  omega

/-- DC's record after a write to a register without behaviour of its own. -/
def plainWritten (d : Device) (v : Word) : PlainRegister → Device
  | .setupLo => { d with setupAddress := BitVec.ofNat 64 (d.setupAddress.toNat / 2 ^ 32 * 2 ^ 32 + v.toNat) }
  | .setupHi => { d with setupAddress := BitVec.ofNat 64 (v.toNat * 2 ^ 32 + d.setupAddress.toNat % 2 ^ 32) }
  | .status => d
  | .cPost => d

theorem writePlain_eq (r : PlainRegister) (v : Word) (s : State) :
    writePlain r v s = s.setDev (plainWritten s.dev v r) := by
  cases r with
  | setupLo => rw [plainWritten, ← toNat_highHalf, ← toNat_halves, BitVec.ofNat_toNat, BitVec.setWidth_eq]; rfl
  | setupHi => rw [plainWritten, ← toNat_lowHalf, ← toNat_halves, BitVec.ofNat_toNat, BitVec.setWidth_eq]; rfl
  | status | cPost => rfl

theorem exec_registerWrite (r : PlainRegister) (v : Word) (s : State) :
    exec (.registerWrite r v) s = .next (s.setDev
      (if s.dev.resetAsserted = true ∨ s.dev.state = .init then s.dev else plainWritten s.dev v r)) := by
  by_cases deaf : s.dev.resetAsserted = true ∨ s.dev.state = .init
  · rw [if_pos deaf, exec, execRegisterWrite, hearsWrites_eq_false_iff.2 deaf]
    rfl
  · rw [if_neg deaf, exec, execRegisterWrite, hearsWrites_iff.2 deaf, if_pos rfl, writePlain_eq]

/-! ## Register reads (11.3, R188) -/

theorem DeviceState.code_le (v : DeviceState) : v.code ≤ 6 := by cases v <;> decide

theorem Cause.code_le : ∀ c : Cause, c.code ≤ 5
  | .none | .setupInvalid | .setupRead => by decide
  | .poster c => by cases c <;> decide

theorem RingState.code_le : ∀ v : RingState, v.code ≤ 2
  | .running | .stalled _ | .fault => by simp [RingState.code]

theorem readRegister_deaf {s : State} (h : s.dev.resetAsserted = true ∨ s.dev.state = .init) (r : Register) :
    s.readRegister r = 0 := by
  simp [State.readRegister, h]

section
variable {s : State} (released : s.dev.resetAsserted = false) (running : s.dev.state ≠ .init)
include released running

theorem readRegister_control : (s.readRegister .control).toNat =
    (if s.dev.enable then 1 else 0) + (if s.dev.intEnable then 4 else 0) := by
  cases e : s.dev.enable <;> cases i : s.dev.intEnable <;> simp [State.readRegister, released, running, e, i, word]

theorem readRegister_setupLo : (s.readRegister .setupLo).toNat = s.dev.setupAddress.toNat % 2 ^ 32 := by
  simp [State.readRegister, released, running]

theorem readRegister_setupHi : (s.readRegister .setupHi).toNat = s.dev.setupAddress.toNat / 2 ^ 32 := by
  simp only [State.readRegister, released, running, beq_iff_eq, Bool.or_eq_true, Bool.false_eq_true, or_false, if_false]
  exact toNat_highHalf _

theorem readRegister_indices :
    s.readRegister .uTail = BitVec.ofNat 32 s.ringU.tail ∧ s.readRegister .bTail = BitVec.ofNat 32 s.ringB.tail ∧
      s.readRegister .cRelease = BitVec.ofNat 32 s.cpo.release ∧
      s.readRegister .cPost = BitVec.ofNat 32 s.cpo.post := by
  simp [State.readRegister, released, running, word]

/-- STATUS is the sum of its fields, each at its place: none reaches beyond its width. -/
theorem readRegister_status (fits : s.causeFieldFits) : (s.readRegister .status).toNat =
    s.dev.state.code + 16 * s.dev.cause.code + 256 * s.dev.causeField + 4096 * s.ringU.state.code +
      16384 * s.ringB.state.code := by
  have state := s.dev.state.code_le
  have cause := s.dev.cause.code_le
  have ringU := s.ringU.state.code_le
  have ringB := s.ringB.state.code_le
  have field : s.dev.causeField ≤ 10 := fits
  have read : s.readRegister .status = s.statusWord := by simp [State.readRegister, released, running]
  rw [read, State.statusWord, word, BitVec.toNat_ofNat]
  omega

/-- The fields of STATUS at their places (11.3). -/
theorem readRegister_status_fields (fits : s.causeFieldFits) {n : Nat} (h : n = (s.readRegister .status).toNat) :
    n % 8 = s.dev.state.code ∧ n / 8 % 2 = 0 ∧ n / 16 % 16 = s.dev.cause.code ∧ n / 256 % 16 = s.dev.causeField ∧
      (∀ r : RingId, n / (if r = .u then 4096 else 16384) % 4 = (s.ring r).state.code) ∧ n / 65536 = 0 := by
  have state := s.dev.state.code_le
  have cause := s.dev.cause.code_le
  have ringU := s.ringU.state.code_le
  have ringB := s.ringB.state.code_le
  have field : s.dev.causeField ≤ 10 := fits
  rw [readRegister_status released running fits] at h
  refine ⟨by omega, by omega, by omega, by omega, fun r => ?_, by omega⟩
  cases r with
  | u => simp only [State.ring, if_true]; omega
  | b => simp only [State.ring, reduceCtorEq, if_false]; omega

end

/-- Settles O12: the writes of CONTROL and of the other registers as updates of DC's record, and the reads register by
register. -/
theorem registerWrites : Obligations.RegisterWrites := by
  refine ⟨fun v c s control noReset => ?control, fun r v s => ?other, fun s => ⟨fun deaf q => readRegister_deaf deaf q,
    fun released running fits => ?reads⟩⟩
  case control =>
    have written : exec c s = finish (writeControl v s) := by obtain rfl | rfl := control <;> rfl
    rw [written, writeControl_enable noReset]
    exact finish_next _
  case other =>
    refine ⟨_, exec_registerWrite r v s, ?_, rfl⟩
    cases r <;> rfl
  case reads =>
    obtain ⟨uTail, bTail, cRelease, cPost⟩ := readRegister_indices released running
    exact ⟨readRegister_control released running, fun n h => readRegister_status_fields released running fits h,
      readRegister_setupLo released running, readRegister_setupHi released running, uTail, bTail, cRelease, cPost⟩

end Sys2Proof.Machine
end

section
/-! PROOFS. The checks of a setup block, field by field on its bytes (O14), and the setups that fail (O15). -/

namespace Sys2Proof.Machine

/-! ## The fields of a setup block (R190) -/

theorem ringSizes_contains_iff (n : Nat) : Config.ringSizes.contains n = true ↔ ringSizeLegal n := by
  have powers : Config.ringSizes = (List.range' 4 9).map fun k => 2 ^ k := rfl
  rw [List.contains_iff_mem, powers, List.mem_map]
  refine exists_congr fun k => ?_
  rw [List.mem_range'_1, and_assoc, eq_comm]
  omega

theorem reserved_any_iff (b : List Byte) :
    (bytesAt b 34 30).any (· != 0) = true ↔ ¬∀ i, 34 ≤ i → i < 64 → byteAt b i = 0 := by
  have shift : (∀ i, i < 30 → byteAt b (34 + i) = 0) ↔ ∀ i, 34 ≤ i → i < 64 → byteAt b i = 0 :=
    ⟨fun h i low high => by simpa [Nat.add_sub_cancel' low] using h (i - 34) (by omega),
      fun h i high => h (34 + i) (by omega) (by omega)⟩
  rw [← shift]
  simp [bytesAt]

/-- DC's checks are those of R190, in the order of the fields. -/
theorem setupFailing_eq (b : List Byte) [DecidablePred (setupFieldPasses b)] :
    setupFailing b = firstFailing ((List.range' 1 10).map fun n => (n, decide ¬setupFieldPasses b n)) := by
  have base (off size align : Nat) :
      (field64 b off % align != 0 || decide (2 ^ 64 < field64 b off + size)) = true ↔
        ¬(field64 b off % align = 0 ∧ field64 b off + size ≤ 2 ^ 64) := by
    rw [Bool.or_eq_true, bne_iff_ne, decide_eq_true_eq]
    omega
  have size (n : Nat) : (!Config.ringSizes.contains n) = true ↔ ¬ringSizeLegal n := by
    rw [Bool.not_eq_true', ← ringSizes_contains_iff, Bool.not_eq_true]
  have range (low high n : Nat) : (decide (n < low) || decide (high < n)) = true ↔ ¬(low ≤ n ∧ n ≤ high) := by
    rw [Bool.or_eq_true, decide_eq_true_eq, decide_eq_true_eq]
    omega
  have check {x : Bool} {p : Prop} [Decidable p] (h : x = true ↔ ¬p) : x = decide ¬p :=
    Bool.eq_iff_iff.2 (h.trans decide_eq_true_iff.symm)
  unfold setupFailing
  refine congrArg firstFailing ?_
  simp only [setupValuesOf, toNat_ofNat_field64, List.range', List.map, List.cons.injEq, Prod.mk.injEq, true_and,
    and_true]
  exact ⟨check (base 0 _ 64), check (size _), check (base 8 _ 64), check (size _), check (base 16 _ 16),
    check (size _), check (range _ _ _), check (range _ _ _), check (range _ _ _), check (reserved_any_iff b)⟩

theorem setupFailing_none_iff (b : List Byte) :
    setupFailing b = none ↔ ∀ n, 1 ≤ n → n ≤ 10 → setupFieldPasses b n := by
  classical
  rw [setupFailing_eq, firstFailing_eq_none_iff]
  simp only [List.forall_mem_map, List.mem_range'_1, decide_eq_false_iff_not, not_not, and_imp]
  exact ⟨fun h n low high => h n low (by omega), fun h n low high => h n low (by omega)⟩

/-- A block is failed for the first field that R190 does not let pass. -/
theorem setupFailing_of_first {b : List Byte} {n : Nat} (low : 1 ≤ n) (high : n ≤ 10) (fails : ¬setupFieldPasses b n)
    (first : ∀ m, 1 ≤ m → m < n → setupFieldPasses b m) : setupFailing b = some n := by
  classical
  rw [setupFailing_eq]
  exact firstFailing_range'_some _ (decide_eq_true fails) 10 1 low (by omega) fun m h h' => by simp [first m h h']

/-- Of the fields that fail one comes first. -/
theorem exists_first_failing {b : List Byte} (h : ¬∀ n, 1 ≤ n → n ≤ 10 → setupFieldPasses b n) :
    ∃ n, 1 ≤ n ∧ n ≤ 10 ∧ ¬setupFieldPasses b n ∧ ∀ m, 1 ≤ m → m < n → setupFieldPasses b m := by
  classical
  push Not at h
  refine ⟨Nat.find h, (Nat.find_spec h).1, (Nat.find_spec h).2.1, (Nat.find_spec h).2.2, fun m low before => ?_⟩
  by_contra fails
  exact Nat.find_min h before ⟨low, (Nat.le_of_lt before).trans (Nat.find_spec h).2.1, fails⟩

/-- Settles O14: a block fails for its first failing field, and a field found is that one. -/
theorem setupBlockChecks : Obligations.SetupBlockChecks := by
  refine fun b => ⟨setupFailing_none_iff b, fun n => ⟨fun found => ?_, fun ⟨low, high, fails, first⟩ =>
    setupFailing_of_first low high fails first⟩⟩
  have some_fails : ¬∀ m, 1 ≤ m → m ≤ 10 → setupFieldPasses b m := fun all => by
    simp [(setupFailing_none_iff b).2 all] at found
  obtain ⟨m, low, high, fails, first⟩ := exists_first_failing some_fails
  obtain rfl : n = m := by simpa [found] using setupFailing_of_first low high fails first
  exact ⟨low, high, fails, first⟩

/-! ## The setups that fail (R189) -/

section
variable {s : State} {f : Flight} (inSetup : s.dev.state = .setup) (flying : s.flight = some f)
  (reading : f.requester = .setup)
include inSetup flying reading

theorem setupInFlight_of : s.setupInFlight = true := by
  simp [State.setupInFlight, inSetup, flying, reading]

/-- The end of the setup read frees the bus and is judged by its outcome. -/
theorem exec_setupReadEnd_inFlight {a : ReadEnd} (whole : blockComplete a = true) :
    exec (.setupReadEnd a) s = finish (setupReadEnds a (freeBus s)) := by
  simp [exec, execSetupReadEnd, setupInFlight_of inSetup flying reading, whole]

theorem exec_setupReadTimeout_inFlight : exec .setupReadTimeout s = finish (setupReadEnds .timeout (freeBus s)) := by
  simp [exec, execSetupReadTimeout, setupInFlight_of inSetup flying reading]

end

/-- The state after a setup that failed: HALTED with the cause, ENABLE 0 and the bus free. -/
def setupFailed (c : Cause) (n : Nat) (s : State) : State :=
  { withBusFree s with dev := { s.dev with state := .halted, cause := c, causeField := n, enable := false } }

section
variable {s : State} (unrequested : s.dev.softResetRequested = false)
include unrequested

theorem setupFails_freeBus (c : Cause) (n : Nat) : setupFails c n false (freeBus s) = setupFailed c n s := by
  simp [setupFails, setupFailed, freeBus, withBusFree, State.setFlight, State.setDev, unrequested]

theorem setupReadEnds_failed {a : ReadEnd} (h : a = .busError ∨ a = .timeout) :
    setupReadEnds a (freeBus s) = setupFailed .setupRead 0 s := by
  rw [← setupFails_freeBus unrequested]
  obtain rfl | rfl := h <;> simp [setupReadEnds, unrequested]

theorem setupReadEnds_invalid {b : List Byte} {n : Nat} (invalid : setupFailing b = some n) :
    setupReadEnds (.ok b) (freeBus s) = setupFailed .setupInvalid n s := by
  rw [← setupFails_freeBus unrequested]
  simp [setupReadEnds, unrequested, invalid]

end

/-- Settles O15: a read that fails, by either row of its timeout too, and a block that fails. -/
theorem failedSetups : Obligations.FailedSetups := by
  refine fun s f inSetup unrequested flying reading => ⟨fun c failure => ?read, fun b n whole invalid => ?block⟩
  case read =>
    have ends : exec c s = finish (setupFailed .setupRead 0 s) := by
      obtain rfl | rfl | rfl := failure
      · rw [exec_setupReadEnd_inFlight inSetup flying reading rfl, setupReadEnds_failed unrequested (.inl rfl)]
      · rw [exec_setupReadEnd_inFlight inSetup flying reading rfl, setupReadEnds_failed unrequested (.inr rfl)]
      · rw [exec_setupReadTimeout_inFlight inSetup flying reading, setupReadEnds_failed unrequested (.inr rfl)]
    rw [ends]
    exact finish_next _
  case block =>
    rw [exec_setupReadEnd_inFlight inSetup flying reading (by simp [blockComplete, whole]),
      setupReadEnds_invalid unrequested invalid]
    exact finish_next _

end Sys2Proof.Machine
end

section
/-! PROOFS. How QFAULT and RESETTING are left (O17): in either state every command but a soft reset, the exit and a pin
reset keeps the device state. -/

namespace Sys2Proof.Machine

/-- DC's state is the same in `s` and `t`. -/
@[simp] abbrev SameDeviceState (s t : State) : Prop := t.dev.state = s.dev.state

/-! ## The operations that reach DC's record -/

theorem issue_sameDeviceState (s : State) : SameDeviceState s (issue s) := by
  obtain e | e := issue_dev s <;> rw [SameDeviceState, e]

section
variable {s : State} (late : s.dev.state = .qfault ∨ s.dev.state = .resetting)
include late

theorem not_writing_of_late : s.writing = false := by
  obtain h | h := late <;> simp [State.writing, h]

/-- No record is dispatched: the arbiter chooses a ring only in ACTIVE (R163). -/
theorem dispatch_sameDeviceState (k : Kind) (o : RecordOwner) : Answers (SameDeviceState s) (dispatch k o s) := by
  have unchosen : chosenRing s = none := chosenRing_of_not_active (by obtain h | h := late <;> simp [h])
  simp [dispatch, unchosen]

theorem not_setupInFlight_of_late : s.setupInFlight = false := by
  obtain h | h := late <;> simp [State.setupInFlight, h]

/-- The failure of a write of CPo's is the entry into QFAULT only from ACTIVE and PAUSED (R183). -/
theorem posterWriteEnds_sameDeviceState (w : PosterWrite) (a : WriteEnd) :
    SameDeviceState s (posterWriteEnds w a (freeBus s)) := by
  have failed (c : PosterCause) : SameDeviceState s (posterFailed w c (freeBus s)) := by
    by_cases qfault : s.dev.state = .qfault
    · rw [posterFailed_qfault w c (by simpa using qfault)]
      simp
    · rw [posterFailed_discarded w c (by simpa [State.writing] using not_writing_of_late late) (by simpa using qfault)]
      simp
  cases a with
  | ok => simp [posterWriteEnds]
  | busError => exact failed _
  | timeout => exact failed _

theorem timeoutEnds_sameDeviceState (q : Requester) : SameDeviceState s (timeoutEnds q s) := by
  unfold timeoutEnds
  split
  case h_1 w => exact posterWriteEnds_sameDeviceState late w .timeout
  all_goals
    repeat' split
    all_goals simp

/-- A bad release is the entry into QFAULT only from ACTIVE and PAUSED (R181). -/
theorem writeRelease_sameDeviceState (v : Nat) : SameDeviceState s (writeRelease v s) := by
  unfold writeRelease
  simp only [not_writing_of_late late, Bool.false_eq_true, if_false]
  repeat' split
  all_goals simp

/-- A CONTROL write without SOFT_RESET changes neither state, and in RESETTING no CONTROL write does (R188). -/
theorem writeControl_sameDeviceState (v : Word) (reset : v.getLsbD 1 = true → s.dev.state = .resetting) :
    SameDeviceState s (writeControl v s) := by
  unfold writeControl
  dsimp only
  repeat' split
  · rename_i bit
    simp [writeSoftReset, writeIntEnable, reset bit]
  · obtain h | h := late <;> simp [writeEnable, writeIntEnable, h]
  · rfl

/-! ## The commands -/

theorem exec_sameDeviceState (released : s.dev.resetAsserted = false) (i : Instr) (pin : i ≠ .resetNAssert)
    (exit : i = .resettingExit → s.dev.state = .qfault)
    (reset : ∀ v, v.getLsbD 1 = true → i = .softReset v ∨ i = .enable v ∨ i = .intEnable v →
      s.dev.state = .resetting) : Answers (SameDeviceState s) (exec i s) := by
  have notInit : s.dev.state ≠ .init := by obtain h | h := late <;> simp [h]
  cases i with
  | nop | sync | panelConfig | panelStart | panelStop | panelHold | panelWindow | update | fill | capture | cancel
  | glyphLoad | tallyBind | tallyUnbind | tallyDefine | tallyControl
  | tallyRead | blinkGroup | blinkZone | countInput =>
    exact dispatch_sameDeviceState late _ _
  | resetNAssert => exact absurd rfl pin
  | resetNRelease => simp [exec, execResetNRelease, released]
  | initClearEnd => simp [exec, execInitClearEnd, notInit]
  | resettingExit => simp [exec, execResettingExit, resettingDone, exit rfl]
  | setupReadEnd a => simp [exec, execSetupReadEnd, not_setupInFlight_of_late late]
  | setupReadTimeout => simp [exec, execSetupReadTimeout, not_setupInFlight_of_late late]
  | enable v =>
    simpa [exec, execEnable] using writeControl_sameDeviceState late v fun bit => reset v bit (.inr (.inl rfl))
  | softReset v =>
    simpa [exec, execSoftReset] using writeControl_sameDeviceState late v fun bit => reset v bit (.inl rfl)
  | intEnable v =>
    simpa [exec, execIntEnable] using writeControl_sameDeviceState late v fun bit => reset v bit (.inr (.inr rfl))
  | cRelease v => simpa [exec, execCRelease] using writeRelease_sameDeviceState late v.toNat
  | registerWrite r v =>
    simp only [exec, execRegisterWrite]
    split
    · cases r <;> simp [writePlain]
    · simp
  | burstIssue =>
    simp only [exec, execBurstIssue]
    split
    · simpa using issue_sameDeviceState s
    · simp
  | burstTimeout =>
    simp only [exec, execBurstTimeout]
    repeat' split
    · simp
    · simpa using timeoutEnds_sameDeviceState late _
    · simp
  | completionWriteEnd a =>
    simp only [exec, execCompletionWriteEnd]
    repeat' split
    · simp
    · simpa using posterWriteEnds_sameDeviceState late _ a
    all_goals simp
  | _ =>
    simp only [exec, execPfltAssert, execPfltRelease, execCinLevelChange, execUsTick, execMsTick,
      execTimebasePeriodStep, execFilterHoldExpiry, execLateAnswer, execTailWrite, execUnknownKind, execRingReadEnd,
      execFetchBurstEnd, execWriteBackBurstEnd, execOrphanBurstEnd, execFrameBoundary, execRowTransfer, execFrameEnd]
    repeat' split
    all_goals simp

end

/-! ## The exit from RESETTING (R193) -/

theorem resettingDone_iff {s : State} (resetting : s.dev.state = .resetting) :
    resettingDone s = true ↔ (∀ p, (s.port p).state = .off ∨ (s.port p).state = .faulted) ∧
      (∀ i, s.slot i ≠ .reclaim) ∧ s.flight = none := by
  simp [resettingDone, resetting, PanelState.atRest, and_assoc]

theorem exec_resettingExit {s : State} (resetting : s.dev.state = .resetting) :
    exec .resettingExit s = .next
      (if (∀ p, (s.port p).state = .off ∨ (s.port p).state = .faulted) ∧ (∀ i, s.slot i ≠ .reclaim) ∧ s.flight = none
        then { s with dev := { s.dev with state := .halted } } else s) := by
  simp only [← resettingDone_iff resetting, exec, execResettingExit]
  split <;> rfl

/-- Settles O17: no other command changes either state, and the exit is taken on its condition. -/
theorem qfaultAndResettingAreLeftOnlyAsTheSpecSays : Obligations.QfaultAndResettingAreLeftOnlyAsTheSpecSays := by
  refine ⟨⟨fun i s t qfault released next => ?qfault, fun i s t resetting released next => ?resetting⟩,
    fun s resetting => ⟨_, exec_resettingExit resetting, rfl⟩⟩
  case qfault =>
    by_cases pin : i = .resetNAssert
    · exact .inr (.inl pin)
    by_cases reset : ∃ v : Word, v.getLsbD 1 = true ∧ (i = .softReset v ∨ i = .enable v ∨ i = .intEnable v)
    · exact .inr (.inr reset)
    · exact .inl ((exec_sameDeviceState (.inl qfault) released i pin (fun _ => qfault)
        (fun v bit which => absurd ⟨v, bit, which⟩ reset) t next).trans qfault)
  case resetting =>
    by_cases pin : i = .resetNAssert
    · exact .inr (.inr pin)
    by_cases exit : i = .resettingExit
    · subst exit
      obtain rfl := Host.Outcome.next.inj ((exec_resettingExit resetting).symm.trans next)
      split
      · exact .inr (.inl ⟨rfl, rfl⟩)
      · exact .inl resetting
    · exact .inl ((exec_sameDeviceState (.inr resetting) released i pin (absurd · exit)
        (fun _ _ _ => resetting) t next).trans resetting)

end Sys2Proof.Machine
end

section
/-! PROOFS. SOFT_RESET (O13): what each port becomes, what every other block becomes, and where the write is ignored or
recorded. -/

namespace Sys2Proof.Machine

/-! ## A port at the entry to RESETTING (R86, R94) -/

/-- A DRAINING port with no frame in progress at its end-of-drain check: OFF at balance 0, a balancing frame at
balance 1. -/
def portDrainChecked (o : Port) : Port :=
  if o.balance then
    match windowApplied o with
    | none => o
    | some c =>
      portAtBoundary o c .balancing (o.frameNumber + 1) ((o.shadePhase + 1) % (2 ^ c.depth - 1)) []
  else portOff o

theorem portDrainChecked_balanced {o : Port} (balanced : o.balance = false) : portDrainChecked o = portOff o := by
  simp [portDrainChecked, balanced]

theorem portDrainChecked_unbalanced {o : Port} {c : PanelConfig} (unbalanced : o.balance = true)
    (applied : windowApplied o = some c) : portDrainChecked o =
      portAtBoundary o c .balancing (o.frameNumber + 1) ((o.shadePhase + 1) % (2 ^ c.depth - 1)) [] := by
  simp [portDrainChecked, unbalanced, applied]

/-- The port that a soft reset leaves. -/
def portSoftReset (o : Port) : Port :=
  if o.state.accepting then
    if o.frame.isNone then portDrainChecked { o with state := .draining, waitingStarts := [], waitingStops := [] }
    else { o with state := .draining, waitingStarts := [], waitingStops := [] }
  else if o.state = .draining then { o with waitingStops := [] }
  else o

theorem windowApplied_eq_none_iff {o : Port} : windowApplied o = none ↔ o.config = none := by
  unfold windowApplied
  split <;> simp

/-- A panel without a configuration has no boundary. -/
theorem boundary_of_unconfigured {p : PanelId} {s : State} (h : (s.port p).config = none) : boundary p s = s := by
  simp [boundary, h]

theorem boundary_of_draining {p : PanelId} {s : State} {c : PanelConfig} (applied : windowApplied (s.port p) = some c)
    (draining : (s.port p).state = .draining) :
    boundary p s = s.setPort p (portAtBoundary (s.port p) c .balancing ((s.port p).frameNumber + 1)
      (((s.port p).shadePhase + 1) % (2 ^ c.depth - 1)) []) := by
  rw [boundary_of_not_running applied (by simp [draining])]
  simp [advanceFrame, draining, frameKindOf, PanelConfig.highestShade]

/-- With no stop waiting the entry to OFF requests nothing. -/
theorem enterOff_unawaited {p : PanelId} {s : State} (h : (s.port p).waitingStops = []) :
    enterOff p s = s.setPort p (portOff (s.port p)) := by
  simp only [enterOff, h, answerAll, List.foldl_nil, applyWindow_eq]
  rfl

@[simp] theorem setPort_port_self (s : State) (p : PanelId) : s.setPort p (s.port p) = s := by
  simp [State.setPort, State.setPorts, State.port]

theorem drainCheck_unawaited {p : PanelId} {s : State} (draining : (s.port p).state = .draining)
    (unawaited : (s.port p).waitingStops = []) :
    drainCheck p s = s.setPort p (portDrainChecked (s.port p)) := by
  unfold drainCheck portDrainChecked
  split
  · split
    · rename_i unapplied
      rw [boundary_of_unconfigured (windowApplied_eq_none_iff.1 unapplied), setPort_port_self]
    · exact boundary_of_draining ‹_› draining
  · exact enterOff_unawaited unawaited

/-- A soft reset reaches a panel's port and nothing else. -/
theorem softResetPort_eq (s : State) (p : PanelId) : softResetPort s p = s.setPort p (portSoftReset (s.port p)) := by
  unfold softResetPort portSoftReset
  dsimp only
  split
  · split
    · rw [drainCheck_unawaited (by simp) (by simp), State.setPort_port, State.setPort_setPort]
    · rfl
  · split
    · rfl
    · exact (setPort_port_self s p).symm

/-- Panel after panel, each port is left by its own reset alone. -/
theorem foldl_softResetPort (l : List PanelId) (nodup : l.Nodup) (s : State) :
    l.foldl softResetPort s =
      s.setPorts (Vector.ofFn fun p : PanelId => if p ∈ l then portSoftReset (s.port p) else s.port p) := by
  induction l generalizing s with
  | nil => simp [State.setPorts, State.port]
  | cons q l ih =>
    obtain ⟨fresh, nodup⟩ := List.nodup_cons.1 nodup
    rw [List.foldl_cons, ih nodup, softResetPort_eq]
    have ports (p : PanelId) :
        (if p ∈ l then portSoftReset ((s.setPort q (portSoftReset (s.port q))).port p)
          else (s.setPort q (portSoftReset (s.port q))).port p) =
          if p ∈ q :: l then portSoftReset (s.port p) else s.port p := by
      by_cases same : p = q
      · subst same
        simp [fresh]
      · simp [same, State.setPort_port_of_ne _ _ (Ne.symm same)]
    simp only [ports]
    rfl

/-- The entry to RESETTING, block by block: the ports' part touches the ports alone. -/
theorem enterResetting_eq (s : State) :
    enterResetting s = (softResetBlocks s).setPorts (Vector.ofFn fun p : PanelId => portSoftReset (s.port p)) := by
  rw [enterResetting, foldl_softResetPort _ (List.nodup_finRange 4)]
  simp [State.port]

/-! ## The other blocks at the entry to RESETTING (R192) -/

section
variable (s : State)

theorem enterResetting_port (p : PanelId) : (enterResetting s).port p = portSoftReset (s.port p) := by
  simp [enterResetting_eq, State.port]

theorem enterResetting_ring (r : RingId) : (enterResetting s).ring r = (s.ring r).softReset := by
  cases r <;> rw [enterResetting_eq] <;> rfl

theorem enterResetting_cpo : (enterResetting s).cpo = s.cpo.softReset := by rw [enterResetting_eq]; rfl

theorem enterResetting_passOver : (enterResetting s).passOver = 0 := by rw [enterResetting_eq]; rfl

theorem enterResetting_list (p : PanelId) : (enterResetting s).list p = [] := by
  simp [enterResetting_eq, softResetBlocks, softResetLists, State.list]

theorem enterResetting_channel (c : Fin 4) : (enterResetting s).channel c = .free := by
  simp [enterResetting_eq, softResetBlocks, softResetLists, abandonAll, State.channel]

theorem enterResetting_waitQueue : (enterResetting s).waitQueue = [] := by rw [enterResetting_eq]; rfl

/-- A data burst runs on as an orphan, and every other transfer as it is (R78). -/
theorem enterResetting_flight : (enterResetting s).flight = orphaned s := by rw [enterResetting_eq]; rfl

theorem enterResetting_slots : (enterResetting s).slots = (abandonAll s).slots := by rw [enterResetting_eq]; rfl

variable {s} in
/-- An owned slot is FREE, or RECLAIM while its owner's burst is in flight (R78). -/
theorem enterResetting_slot_owned {i : Fin 24} {o : Owner} (owned : s.slot i = .owned o) :
    (enterResetting s).slot i = if flyingOwner s = some o then .reclaim else .free := by
  rw [State.slot, enterResetting_slots]
  simp [abandonAll, owned]

variable {s} in
theorem enterResetting_slot_unowned {i : Fin 24} (unowned : ∀ o, s.slot i ≠ .owned o) :
    (enterResetting s).slot i = s.slot i := by
  rw [State.slot, enterResetting_slots]
  cases e : s.slot i with
  | owned o => exact absurd e (unowned o)
  | free | reclaim => simp [abandonAll, e]

theorem enterResetting_kept :
    (enterResetting s).tb = s.tb ∧ (enterResetting s).regions = s.regions ∧ (enterResetting s).staging = s.staging ∧
      (enterResetting s).rrNext = s.rrNext ∧ (enterResetting s).pending = s.pending := by
  simp [enterResetting_eq]

/-- TY, GB, BU and TB begin anew, and every line's accepted level is its raw level (log entry 21). -/
theorem enterResetting_units :
    (∀ t, (enterResetting s).tally t = Tally.reset) ∧ (∀ g, (enterResetting s).glyph g = .empty) ∧
      (∀ t k, (enterResetting s).binding t k = none) ∧ (∀ z, (enterResetting s).zone z = none) ∧
      (∀ g, (enterResetting s).group g = BlinkGroup.reset) ∧
      ∀ n, (enterResetting s).cin n = (s.cin n).softReset := by
  simp [enterResetting_eq, softResetBlocks, softResetUnits, State.tally, State.glyph, State.binding, State.zone,
    State.group, State.cin]

end

/-- With nothing left to write the entry to RESETTING is the whole step. -/
theorem finish_enterResetting (s : State) : finish (enterResetting s) = .next (enterResetting s) := by
  have unpresented : (enterResetting s).cpo.presented = none := by rw [enterResetting_cpo]; rfl
  rw [finish, settled_of_not_writing (enterResetting_not_writing s) unpresented]

/-! ## The transfer in flight (R76, R78) -/

theorem orphaned_idle {s : State} (idle : s.flight = none) : orphaned s = none := by simp [orphaned, idle]

section
variable {s : State} {f : Flight} (flying : s.flight = some f)
include flying

theorem orphaned_other (other : ∀ c, f.requester ≠ .channel c) : orphaned s = some f := by
  cases q : f.requester with
  | channel c => exact absurd q (other c)
  | _ => simp [orphaned, flying, q]

theorem orphaned_channel {c : Fin 4} {op : Operation} (reading : f.requester = .channel c)
    (inFlight : s.channel c = .inFlight op) : orphaned s = some { f with requester := .orphan op } := by
  simp [orphaned, flying, reading, inFlight, Channel.op]

end

/-! ## The write of SOFT_RESET (R188) -/

/-- While RESET_n is asserted and in INIT a CONTROL write is ignored. -/
theorem exec_softReset_deaf {s : State} (deaf : s.dev.resetAsserted = true ∨ s.dev.state = .init) (v : Word) :
    exec (.softReset v) s = finish s := by
  simp [exec, execSoftReset, writeControl, hearsWrites_eq_false_iff.2 deaf]

section
variable {v : Word} {s : State} (bit : v.getLsbD 1 = true)
include bit

theorem writeControl_softReset (released : s.dev.resetAsserted = false) (running : s.dev.state ≠ .init) :
    writeControl v s = writeSoftReset (writeIntEnable (v.getLsbD 2) s) := by
  simp [writeControl, hearsWrites_of released running, bit]

variable (released : s.dev.resetAsserted = false)
include released

/-- In SETUP the soft reset is recorded (R189). -/
theorem exec_softReset_setup (inSetup : s.dev.state = .setup) : exec (.softReset v) s =
    finish { s with dev := { s.dev with intEnable := v.getLsbD 2, softResetRequested := true } } := by
  simp only [exec, execSoftReset, writeControl_softReset bit released (by simp [inSetup]), writeSoftReset,
    writeIntEnable, State.setDev, inSetup]

theorem exec_softReset_resetting (resetting : s.dev.state = .resetting) : exec (.softReset v) s =
    finish { s with dev := { s.dev with intEnable := v.getLsbD 2 } } := by
  simp only [exec, execSoftReset, writeControl_softReset bit released (by simp [resetting]), writeSoftReset,
    writeIntEnable, State.setDev, resetting]

theorem exec_softReset_enters
    (acts : s.dev.state = .halted ∨ s.dev.state = .active ∨ s.dev.state = .paused ∨ s.dev.state = .qfault) :
    exec (.softReset v) s = .next (enterResetting (writeIntEnable (v.getLsbD 2) s)) := by
  have running : s.dev.state ≠ .init := by obtain h | h | h | h := acts <;> simp [h]
  rw [exec, execSoftReset, writeControl_softReset bit released running, ← finish_enterResetting]
  obtain h | h | h | h := acts <;> simp [writeSoftReset, writeIntEnable, h]

end

/-- A soft reset recorded in SETUP is made at the end of the setup read, by whatever outcome (R189). -/
theorem exec_setupReadEnd_requested {s : State} {f : Flight} {a : ReadEnd} (inSetup : s.dev.state = .setup)
    (requested : s.dev.softResetRequested = true) (flying : s.flight = some f) (reading : f.requester = .setup)
    (whole : blockComplete a = true) : exec (.setupReadEnd a) s = .next (enterResetting (freeBus s)) := by
  rw [exec_setupReadEnd_inFlight inSetup flying reading whole, ← finish_enterResetting]
  simp [setupReadEnds, requested]

/-! ## The obligation -/

theorem portSoftReset_framed {o : Port} (accepting : o.state.accepting = true) (framed : o.frame.isSome) :
    portSoftReset o = { o with state := .draining, waitingStarts := [], waitingStops := [] } := by
  obtain ⟨f, frame⟩ := Option.isSome_iff_exists.1 framed
  simp [portSoftReset, accepting, frame]

theorem portSoftReset_unframed {o : Port} (accepting : o.state.accepting = true) (unframed : o.frame = none) :
    portSoftReset o = portDrainChecked { o with state := .draining, waitingStarts := [], waitingStops := [] } := by
  simp [portSoftReset, accepting, unframed]

theorem portSoftReset_draining {o : Port} (draining : o.state = .draining) :
    portSoftReset o = { o with waitingStops := [] } := by
  simp [portSoftReset, draining, PanelState.accepting]

theorem portSoftReset_atRest {o : Port} (rest : o.state = .off ∨ o.state = .faulted) : portSoftReset o = o := by
  obtain h | h := rest <;> simp [portSoftReset, h, PanelState.accepting]

/-- Settles O13: the write by the state of the device, the soft reset recorded in SETUP, and the entry to RESETTING
block by block and port by port. -/
theorem softResetEntersResetting : Obligations.SoftResetEntersResetting := by
  refine ⟨fun v s bit => ⟨fun deaf => ?deaf, fun released inSetup => ?inSetup, fun released resetting => ?resetting⟩,
    fun s f a inSetup requested flying reading whole => ?recorded, fun v s released bit acts => ?blocks,
    fun v s p released bit acts => ⟨_, exec_softReset_enters bit released acts, ?ports⟩⟩
  case deaf => rw [exec_softReset_deaf deaf]; exact finish_next s
  case inSetup => rw [exec_softReset_setup bit released inSetup]; exact finish_next _
  case resetting => rw [exec_softReset_resetting bit released resetting]; exact finish_next _
  case recorded =>
    have complete : blockComplete a = true := by cases a <;> simp [blockComplete, whole]
    refine ⟨_, exec_setupReadEnd_requested inSetup requested flying reading complete, ?_, enterResetting_dev _⟩
    rw [enterResetting_flight, orphaned_idle rfl]
  case blocks =>
    obtain ⟨tally, glyph, binding, zone, group, cin⟩ := enterResetting_units (writeIntEnable (v.getLsbD 2) s)
    exact ⟨_, exec_softReset_enters bit released acts, enterResetting_dev _, enterResetting_ring _,
      enterResetting_passOver _, enterResetting_cpo _, enterResetting_list _, enterResetting_waitQueue _,
      enterResetting_channel _, fun idle => (enterResetting_flight _).trans (orphaned_idle idle),
      fun f flying other => (enterResetting_flight _).trans (orphaned_other flying other),
      fun f c op flying reading inFlight => (enterResetting_flight _).trans (orphaned_channel flying reading inFlight),
      fun i o owned => enterResetting_slot_owned (s := writeIntEnable (v.getLsbD 2) s) owned,
      fun i unowned => enterResetting_slot_unowned (s := writeIntEnable (v.getLsbD 2) s) unowned,
      tally, glyph, binding, zone, group, cin, enterResetting_kept _⟩
  case ports =>
    rw [enterResetting_port]
    refine ⟨portSoftReset_framed, fun accepting unframed => ⟨fun balanced => ?off, fun c unbalanced applied => ?drains⟩,
      portSoftReset_draining, portSoftReset_atRest⟩
    case off => exact (portSoftReset_unframed accepting unframed).trans (portDrainChecked_balanced balanced)
    case drains =>
      exact (portSoftReset_unframed accepting unframed).trans (portDrainChecked_unbalanced unbalanced applied)

end Sys2Proof.Machine
end

section
/-! PROOFS. One step (O1): the front command of the queue, and the idle part (log entry 5). -/

namespace Sys2Proof.Machine

theorem step_cons {s : State} {c : Instr} {rest : List Instr} (queued : s.pending = c :: rest) :
    step s = exec c (s.setPending rest) := by
  rw [step, queued]

theorem step_nil {s : State} (empty : s.pending = []) : step s = .next s := by
  rw [step, empty]

/-- Settles O1: the queue holds a front command or is empty. -/
theorem stepTakesTheFrontCommand : Obligations.StepTakesTheFrontCommand :=
  ⟨fun _ _ _ queued => step_cons queued, fun _ empty => step_nil empty⟩

end Sys2Proof.Machine
end
